-- ==== Sys2Proof/Word.lean ====
section
/-! DEFINITION. The word types of the machine (spec/10_state.md R20, R26; spec/20_memory.md R60). -/

namespace Sys2Proof

/-- A 64-bit register value or virtual address. -/
abbrev Dword := BitVec 64

/-- A 32-bit A64 instruction word (R90). -/
abbrev InstrWord := BitVec 32

/-- One byte of memory (R60(b): 8 bits, general knowledge). -/
abbrev Byte := BitVec 8

end Sys2Proof
end

