-- ==== Sys2Proof/Syntax.lean ====
section
/-! DEFINITION. The instructions of spec/30_encoding.md R93: 22 System register accessors, one constructor per row of
spec/opcode_table.json.  The operand is the general-purpose register number `Rt` (R94). -/

namespace Sys2Proof

/-- The accessors of R93.  `rt` is the register number of `<Xt>`; 31 names the zero register (R94, D4). -/
inductive Instr where
  /-- `MRS <Xt>, SCTLR_EL2` (R191). -/
  | mrsSctlrEl2 (rt : Nat)
  /-- `MSR SCTLR_EL2, <Xt>` (R192). -/
  | msrSctlrEl2 (rt : Nat)
  /-- `MRS <Xt>, SCTLR_EL1` (R193). -/
  | mrsSctlrEl1 (rt : Nat)
  /-- `MSR SCTLR_EL1, <Xt>` (R194). -/
  | msrSctlrEl1 (rt : Nat)
  /-- `MRS <Xt>, HFGRTR2_EL2` (R229). -/
  | mrsHfgrtr2El2 (rt : Nat)
  /-- `MSR HFGRTR2_EL2, <Xt>` (R230). -/
  | msrHfgrtr2El2 (rt : Nat)
  /-- `MRS <Xt>, ID_AA64DFR0_EL1` (R259). -/
  | mrsIdAa64dfr0El1 (rt : Nat)
  /-- `MRS <Xt>, ID_AA64ISAR1_EL1` (R288). -/
  | mrsIdAa64isar1El1 (rt : Nat)
  /-- `MRS <Xt>, ID_AA64ISAR2_EL1` (R318). -/
  | mrsIdAa64isar2El1 (rt : Nat)
  /-- `MRS <Xt>, ID_AA64SMFR0_EL1` (R356). -/
  | mrsIdAa64smfr0El1 (rt : Nat)
  /-- `MRS <Xt>, TCR2_EL1` (R400). -/
  | mrsTcr2El1 (rt : Nat)
  /-- `MSR TCR2_EL1, <Xt>` (R401). -/
  | msrTcr2El1 (rt : Nat)
  /-- `MRS <Xt>, TCR2_EL12` (R402). -/
  | mrsTcr2El12 (rt : Nat)
  /-- `MSR TCR2_EL12, <Xt>` (R403). -/
  | msrTcr2El12 (rt : Nat)
  /-- `MRS <Xt>, TCR2ALIAS_EL1` (R407). -/
  | mrsTcr2aliasEl1 (rt : Nat)
  /-- `MSR TCR2ALIAS_EL1, <Xt>` (R408). -/
  | msrTcr2aliasEl1 (rt : Nat)
  /-- `MRS <Xt>, TCR_EL1` (R479). -/
  | mrsTcrEl1 (rt : Nat)
  /-- `MSR TCR_EL1, <Xt>` (R480). -/
  | msrTcrEl1 (rt : Nat)
  /-- `MRS <Xt>, TCR_EL12` (R481). -/
  | mrsTcrEl12 (rt : Nat)
  /-- `MSR TCR_EL12, <Xt>` (R482). -/
  | msrTcrEl12 (rt : Nat)
  /-- `MRS <Xt>, TCRALIAS_EL1` (R483). -/
  | mrsTcraliasEl1 (rt : Nat)
  /-- `MSR TCRALIAS_EL1, <Xt>` (R484). -/
  | msrTcraliasEl1 (rt : Nat)
  deriving DecidableEq, Repr

/-- The register number of the operand `<Xt>` (R94). -/
def Instr.rt : Instr → Nat
  | .mrsSctlrEl2 rt => rt
  | .msrSctlrEl2 rt => rt
  | .mrsSctlrEl1 rt => rt
  | .msrSctlrEl1 rt => rt
  | .mrsHfgrtr2El2 rt => rt
  | .msrHfgrtr2El2 rt => rt
  | .mrsIdAa64dfr0El1 rt => rt
  | .mrsIdAa64isar1El1 rt => rt
  | .mrsIdAa64isar2El1 rt => rt
  | .mrsIdAa64smfr0El1 rt => rt
  | .mrsTcr2El1 rt => rt
  | .msrTcr2El1 rt => rt
  | .mrsTcr2El12 rt => rt
  | .msrTcr2El12 rt => rt
  | .mrsTcr2aliasEl1 rt => rt
  | .msrTcr2aliasEl1 rt => rt
  | .mrsTcrEl1 rt => rt
  | .msrTcrEl1 rt => rt
  | .mrsTcrEl12 rt => rt
  | .msrTcrEl12 rt => rt
  | .mrsTcraliasEl1 rt => rt
  | .msrTcraliasEl1 rt => rt

/-- `true` for the MRS forms (`L == 1`, R92). -/
def Instr.isRead : Instr → Bool
  | .mrsSctlrEl2 _ => true
  | .msrSctlrEl2 _ => false
  | .mrsSctlrEl1 _ => true
  | .msrSctlrEl1 _ => false
  | .mrsHfgrtr2El2 _ => true
  | .msrHfgrtr2El2 _ => false
  | .mrsIdAa64dfr0El1 _ => true
  | .mrsIdAa64isar1El1 _ => true
  | .mrsIdAa64isar2El1 _ => true
  | .mrsIdAa64smfr0El1 _ => true
  | .mrsTcr2El1 _ => true
  | .msrTcr2El1 _ => false
  | .mrsTcr2El12 _ => true
  | .msrTcr2El12 _ => false
  | .mrsTcr2aliasEl1 _ => true
  | .msrTcr2aliasEl1 _ => false
  | .mrsTcrEl1 _ => true
  | .msrTcrEl1 _ => false
  | .mrsTcrEl12 _ => true
  | .msrTcrEl12 _ => false
  | .mrsTcraliasEl1 _ => true
  | .msrTcraliasEl1 _ => false

end Sys2Proof
end

