-- ==== Sys2Proof/WellFormed.lean ====
section
/-! DEFINITION. Which terms of `Instr` stand for an encodable instruction: the register number fits the 5-bit `Rt`
field (spec/30_encoding.md R92, R94). -/

namespace Sys2Proof

/-- The one operand of an accessor is a register number 0..31 (R94). -/
def Instr.wellFormed (i : Instr) : Bool := decide (i.rt < 32)

/-- `i` has an encoding. -/
abbrev Instr.WellFormed (i : Instr) : Prop := i.wellFormed = true

theorem Instr.wellFormed_iff (i : Instr) : i.WellFormed ↔ i.rt < 32 := by
  simp [Instr.WellFormed, Instr.wellFormed]

end Sys2Proof
end

