-- ==== Sys2Proof/Decode.lean ====
section
/-! DEFINITION. Decoding of A64 MRS and MSR words (spec/30_encoding.md R90 to R97) and, after it, the encoder.
The decoder works from the match words of the opcode map (R93, R95); the encoder builds the word from the System
register coordinate by the formula of R92. -/

namespace Sys2Proof

/-- The System register coordinate of R91; `op0` is 3 for every accessor of this spec. -/
structure Coordinate where
  op1 : BitVec 3
  crn : BitVec 4
  crm : BitVec 4
  op2 : BitVec 3
  deriving DecidableEq, Repr

/-- What a sequence of bytes is, read as one instruction. -/
inductive Decoded where
  /-- One of the 22 accessors of R93. -/
  | instr (i : Instr)
  /-- The MSR word of a read-only ID register: UNDEFINED (R96, D14). -/
  | readOnlyWrite (w : InstrWord)
  /-- An MRS or MSR of the encodings reserved for IMPLEMENTATION DEFINED registers: CRn 11 or 15 (R97). -/
  | implementationDefined (w : InstrWord)
  /-- An MRS or MSR of a coordinate that this spec does not describe (R96, D14). -/
  | otherRegister (w : InstrWord)
  /-- Not an MRS or MSR (register) word at all (R95 step 1). -/
  | notSysMove (w : InstrWord)
  /-- Fewer than four bytes: A64 has no shorter instruction (R90). -/
  | truncated
  deriving DecidableEq, Repr

/-! ## The 32-bit word (R92) -/

/-- `Rt`, bits 4:0. -/
def wordRt (w : InstrWord) : Nat := (w.extractLsb' 0 5).toNat

/-- `L`, bit 21: 1 for MRS. -/
def wordIsRead (w : InstrWord) : Bool := w.getLsbD 21

/-- `o0`, bit 19: `op0 == 2 + o0`. -/
def wordO0 (w : InstrWord) : Bool := w.getLsbD 19

/-- The coordinate fields of the word. -/
def wordCoordinate (w : InstrWord) : Coordinate where
  op1 := w.extractLsb' 16 3
  crn := w.extractLsb' 12 4
  crm := w.extractLsb' 8 4
  op2 := w.extractLsb' 5 3

/-- The word without `Rt`: what the `match` column of R93 holds. -/
def wordKey (w : InstrWord) : InstrWord := w &&& 0xFFFFFFE0#32

/-- The class test of R92: MRS or MSR (register), any System register. -/
def isSysMove (w : InstrWord) : Bool := decide (w &&& 0xFFD00000#32 = 0xD5100000#32)

/-- A word whose System register lies in the space reserved for IMPLEMENTATION DEFINED registers (R97; that the
registers are those with CRn 11 or 15 is general knowledge, note 17). -/
def isImplementationDefined (w : InstrWord) : Bool :=
  wordO0 w && (decide ((wordCoordinate w).crn = 11#4) || decide ((wordCoordinate w).crn = 15#4))

/-- One row of the opcode map R93. -/
structure OpRow where
  key  : InstrWord
  make : Nat → Instr

/-- The `match` column of R93. -/
def opTable : List OpRow :=
  [ ⟨0xD53C1000#32, .mrsSctlrEl2⟩,
    ⟨0xD51C1000#32, .msrSctlrEl2⟩,
    ⟨0xD5381000#32, .mrsSctlrEl1⟩,
    ⟨0xD5181000#32, .msrSctlrEl1⟩,
    ⟨0xD53C3140#32, .mrsHfgrtr2El2⟩,
    ⟨0xD51C3140#32, .msrHfgrtr2El2⟩,
    ⟨0xD5380500#32, .mrsIdAa64dfr0El1⟩,
    ⟨0xD5380620#32, .mrsIdAa64isar1El1⟩,
    ⟨0xD5380640#32, .mrsIdAa64isar2El1⟩,
    ⟨0xD53804A0#32, .mrsIdAa64smfr0El1⟩,
    ⟨0xD5382060#32, .mrsTcr2El1⟩,
    ⟨0xD5182060#32, .msrTcr2El1⟩,
    ⟨0xD53D2060#32, .mrsTcr2El12⟩,
    ⟨0xD51D2060#32, .msrTcr2El12⟩,
    ⟨0xD53827E0#32, .mrsTcr2aliasEl1⟩,
    ⟨0xD51827E0#32, .msrTcr2aliasEl1⟩,
    ⟨0xD5382040#32, .mrsTcrEl1⟩,
    ⟨0xD5182040#32, .msrTcrEl1⟩,
    ⟨0xD53D2040#32, .mrsTcrEl12⟩,
    ⟨0xD51D2040#32, .msrTcrEl12⟩,
    ⟨0xD53827C0#32, .mrsTcraliasEl1⟩,
    ⟨0xD51827C0#32, .msrTcraliasEl1⟩]

/-- The MSR words of the four read-only ID registers (R96). -/
def readOnlyKeys : List InstrWord := [0xD5180500#32, 0xD5180620#32, 0xD5180640#32, 0xD51804A0#32]

/-- The decode procedure of R95, with the rejections of R96 and R97 by name. -/
def decodeWord (w : InstrWord) : Decoded :=
  if isSysMove w then
    match opTable.find? (fun r => decide (r.key = wordKey w)) with
    | some r => .instr (r.make (wordRt w))
    | none =>
      if readOnlyKeys.contains (wordKey w) then .readOnlyWrite w
      else if isImplementationDefined w then .implementationDefined w
      else .otherRegister w
  else .notSysMove w

/-- Four bytes, the first at the lowest address, as a little-endian word (R61). -/
def wordOfBytes (b0 b1 b2 b3 : Byte) : InstrWord := b3 ++ b2 ++ b1 ++ b0

/-- Byte `k` of a word, counted from the least significant. -/
def byteOfWord (w : InstrWord) (k : Nat) : Byte := w.extractLsb' (8 * k) 8

/-- The bytes of a word as they stand in memory (R61). -/
def bytesOfWord (w : InstrWord) : List Byte := [byteOfWord w 0, byteOfWord w 1, byteOfWord w 2, byteOfWord w 3]

/-- Decoding of any bytes: the first four are the instruction (R90). -/
def decode : List Byte → Decoded
  | b0 :: b1 :: b2 :: b3 :: _ => decodeWord (wordOfBytes b0 b1 b2 b3)
  | _ => .truncated

/-- The instruction the decoder reads from an instruction whose bits are `w` (bits numbered as in
spec/opcode_table.json; bits at and above `nbits` are 0). -/
def decodeTableWord (nbits w : Nat) : Option Instr :=
  match decode (bytesOfWord (BitVec.ofNat 32 (w % 2 ^ nbits))) with
  | .instr i => some i
  | _ => none

/-! ## The encoder (R91, R92) -/

/-- The coordinate of each accessor name, from the tables of the accessor rules. -/
def Instr.coordinate : Instr → Coordinate
  | .mrsSctlrEl2 _ => ⟨4, 1, 0, 0⟩
  | .msrSctlrEl2 _ => ⟨4, 1, 0, 0⟩
  | .mrsSctlrEl1 _ => ⟨0, 1, 0, 0⟩
  | .msrSctlrEl1 _ => ⟨0, 1, 0, 0⟩
  | .mrsHfgrtr2El2 _ => ⟨4, 3, 1, 2⟩
  | .msrHfgrtr2El2 _ => ⟨4, 3, 1, 2⟩
  | .mrsIdAa64dfr0El1 _ => ⟨0, 0, 5, 0⟩
  | .mrsIdAa64isar1El1 _ => ⟨0, 0, 6, 1⟩
  | .mrsIdAa64isar2El1 _ => ⟨0, 0, 6, 2⟩
  | .mrsIdAa64smfr0El1 _ => ⟨0, 0, 4, 5⟩
  | .mrsTcr2El1 _ => ⟨0, 2, 0, 3⟩
  | .msrTcr2El1 _ => ⟨0, 2, 0, 3⟩
  | .mrsTcr2El12 _ => ⟨5, 2, 0, 3⟩
  | .msrTcr2El12 _ => ⟨5, 2, 0, 3⟩
  | .mrsTcr2aliasEl1 _ => ⟨0, 2, 7, 7⟩
  | .msrTcr2aliasEl1 _ => ⟨0, 2, 7, 7⟩
  | .mrsTcrEl1 _ => ⟨0, 2, 0, 2⟩
  | .msrTcrEl1 _ => ⟨0, 2, 0, 2⟩
  | .mrsTcrEl12 _ => ⟨5, 2, 0, 2⟩
  | .msrTcrEl12 _ => ⟨5, 2, 0, 2⟩
  | .mrsTcraliasEl1 _ => ⟨0, 2, 7, 6⟩
  | .msrTcraliasEl1 _ => ⟨0, 2, 7, 6⟩

/-- The word of R92 with `op0 == 3` (so `o0 == 1`). -/
def sysMoveWord (isRead : Bool) (c : Coordinate) (rt : BitVec 5) : InstrWord :=
  0b1101010100#10 ++ BitVec.ofBool isRead ++ 1#1 ++ 1#1 ++ c.op1 ++ c.crn ++ c.crm ++ c.op2 ++ rt

/-- The word of an instruction; `Rt` keeps its low five bits. -/
def encode (i : Instr) : InstrWord := sysMoveWord i.isRead i.coordinate (BitVec.ofNat 5 i.rt)

/-- The bytes of an instruction as the hardware stores them (R61, R90). -/
def encodeBytes (i : Instr) : List Byte := bytesOfWord (encode i)

end Sys2Proof
end

