-- ==== Sys2Proof/Config.lean ====
section
/-! DEFINITION. What an implementation fixes (spec/93_implementation_defined.md section 3; spec/10_state.md R24), and
the free values: constants without a body that stand for what the architecture leaves open at each event
("any value", section 2 of the same file). -/

namespace Sys2Proof

/-! ## Features (R24; 93_implementation_defined.md section 1) -/

/-- The optional features the spec names, grouped by the document that first names them.  The last three are not
among the 156 names of section 1: the standard meanings of 00_scope.md section 6 mention them (log entry 31). -/
inductive Feature where
  -- doc00 (SCTLR_EL2)
  | AA32EL0 | AA64 | BTI | BigEnd | BigEndEL0 | CMOW | CSV2_1p2 | CSV2_2 | DPB | DPB2 | DoubleFault2 | ExS
  | FGT | FPMR | IESB | LRCPC3 | LS64 | LS64_ACCDATA | LS64_V | LSE2 | LSMAOC | MOPS | MTE | MTE2 | MTE3
  | MTE_ASYM_FAULT | MTE_ASYNC | MTE_STORE_ONLY | MixedEnd | MixedEndEL0 | NMI | OCCMO | PAN3 | PAuth
  | PAuth_LR | SME | SPECRES | SPECRES2 | SRMASK | SSBS | TIDCP1 | TWED | VHE | WFxT
  -- doc01 (TCR_EL1)
  | D128 | E0PD | FGT2 | HAFDBS | HPDS | HPDS2 | LPA2 | LVA | MTE_CANONICAL_TAGS | MTE_NO_ADDRESS_TAGS | SVE
  -- doc02 (TCR2_EL1)
  | AIE | ASID2 | HAFT | S1PIE | S1POE | TCR2 | THE
  -- doc03 (HFGRTR2_EL2)
  | PFAR | RASv2
  -- doc04 (ID_AA64DFR0_EL1)
  | BRBE | BRBEv1p1 | Debugv8p1 | Debugv8p2 | Debugv8p4 | Debugv8p8 | Debugv8p9 | DoPD | DoubleLock | ETE
  | ETMv4 | HPMN0 | IDST | IDTE3 | MTPMU | PMUv3 | PMUv3_SS | PMUv3p1 | PMUv3p4 | PMUv3p5 | PMUv3p7 | PMUv3p8
  | PMUv3p9 | SEBEP | SPE | SPE_EXC | SPE_nVM | SPEv1p1 | SPEv1p2 | SPEv1p3 | SPEv1p4 | SPEv1p5 | TRBE
  | TRBE_EXC | TRBE_EXT | TRBEv1p1 | TRF
  -- doc05 (ID_AA64ISAR1_EL1)
  | BF16 | DGH | EBF16 | EPAC | FCMA | FPAC | FPACCOMBINE | FRINTTS | I8MM | JSCVT | LRCPC | LRCPC2 | LS64WB
  | PACIMP | PACQARMA5 | PAuth2 | SB | XS
  -- doc06 (ID_AA64SMFR0_EL1)
  | FP8DOT2 | FP8DOT4 | FP8FMA | SME2 | SME2p1 | SME2p2 | SME_B16B16 | SME_F16F16 | SME_F64F64 | SME_F8F16
  | SME_F8F32 | SME_FA64 | SME_I16I64 | SME_LUTv2 | SME_MOP4 | SME_TMOP | SSVE_AES | SSVE_BitPerm
  | SSVE_FEXPA | SSVE_FP8DOT2 | SSVE_FP8DOT4 | SSVE_FP8FMA
  -- doc07 (ID_AA64ISAR2_EL1)
  | AdvSIMD | CLRBHB | CMPBR | CONSTPACFIELD | CSSC | HBC | LUT | PACQARMA3 | PCDPHINT | PRFMSLC | RPRES
  | RPRFM | SVE2 | SYSINSTR128 | SYSREG128
  -- 00_scope.md section 6
  | HCX | NV | NV2
  deriving DecidableEq, Repr

/-- The Exception levels (R500); the 2-bit coding is `EL.code`. -/
inductive EL where
  | el0 | el1 | el2 | el3
  deriving DecidableEq, Repr

/-- The numeric coding of `PSTATE.EL` (R500: EL0 = 0b00 to EL3 = 0b11, general knowledge). -/
def EL.code : EL → BitVec 2
  | .el0 => 0
  | .el1 => 1
  | .el2 => 2
  | .el3 => 3

/-- The level a 2-bit code names. -/
def EL.ofCode (c : BitVec 2) : EL :=
  if c = 0 then .el0 else if c = 1 then .el1 else if c = 2 then .el2 else .el3

/-- The translation granule sizes of TCR_EL1.TG0 and TG1 (R450, R457). -/
inductive Granule where
  | g4K | g16K | g64K
  deriving DecidableEq, Repr

/-- `ID_AA64MMFR0_EL1.PARange`, the supported physical address size (R449; section 3, `PARange`). -/
inductive PARange where
  | bits32 | bits36 | bits40 | bits42 | bits44 | bits48 | bits52 | bits56
  deriving DecidableEq, Repr

/-- The size in bits. -/
def PARange.bits : PARange → Nat
  | .bits32 => 32
  | .bits36 => 36
  | .bits40 => 40
  | .bits42 => 42
  | .bits44 => 44
  | .bits48 => 48
  | .bits52 => 52
  | .bits56 => 56

/-- An architecture version, for the "From Armv8.n" constraints (R242; `ArchVersion`). -/
structure ArchVersion where
  major : Nat
  minor : Nat
  deriving DecidableEq, Repr

/-- The codes of the six EL0 traps whose texts state none (R505, D15: `EC_<field>`). -/
structure TrapCodes where
  tscxt  : BitVec 6
  ntwe   : BitVec 6
  ntwi   : BitVec 6
  uct    : BitVec 6
  dze    : BitVec 6
  enrctx : BitVec 6
  deriving DecidableEq, Repr

/-- The defined value a reserved field value acts as (D10: `ReservedBehaviour(<field>, value)`), for the fields that
have one reserved value each: TCF and TCF0 (0b11), SH0 and SH1 (0b01). -/
structure ReservedBehaviour where
  tcf  : BitVec 2
  tcf0 : BitVec 2
  sh0  : BitVec 2
  sh1  : BitVec 2
  deriving DecidableEq, Repr

/-- The parts of exception entry that the spec leaves to the surrounding PE model (R521): the offset from the vector
base by the origin of the exception, and `PSTATE.SP` and BTYPE after entry. -/
structure EntryInterface where
  /-- same level, `PSTATE.SP == 0` -/
  offsetSp0   : Dword
  /-- same level, `PSTATE.SP == 1` -/
  offsetSpx   : Dword
  /-- from a lower level in AArch64 state -/
  offsetLower : Dword
  spAfter     : Bool
  btypeAfter  : BitVec 2
  deriving DecidableEq, Repr

/-- What lies outside the spec and an ID field rule of files 44 and 45, or R227, relates a value with.  No source
describes ID_AA64DFR1_EL1: what a field of it says stands here as the number it indicates, not as its encoding. -/
structure CrossInputs where
  /-- ID_AA64ZFR0_EL1.I8MM (R274). -/
  zfr0I8mm    : Nat
  /-- ID_AA64ZFR0_EL1.BF16 (R276). -/
  zfr0Bf16    : Nat
  /-- ID_AA64DFR1_EL1.CTX_CMPs: `none` when it is zero, otherwise how many context-aware breakpoints it indicates
  (R251, R255). -/
  dfr1CtxCmps : Option Nat
  /-- The number of watchpoints ID_AA64DFR1_EL1.WRPs indicates, where it does (R253). -/
  dfr1Wrps    : Nat
  /-- ID_AA64DFR1_EL1.BRPs: `none` when it is zero, otherwise how many breakpoints it indicates (R255). -/
  dfr1Brps    : Option Nat
  /-- AArch32 is supported at EL1 (notes of R251, R253, R255). -/
  aarch32El1  : Bool
  /-- Floating-point is implemented (R283, R284; Advanced SIMD is the feature `AdvSIMD`). -/
  floatingPoint : Bool
  /-- The DGH instruction has no effect in preventing the merging of memory accesses (R275). -/
  dghNoEffect : Bool
  /-- ERRSELR_EL1 and all ERX* registers are implemented as UNDEFINED or RAZ/WI (R227). -/
  erxAbsent : Bool
  deriving DecidableEq, Repr

/-- The configuration parameters of one PE (93_implementation_defined.md section 3), constant for its lifetime. -/
structure Config where
  /-- `Features` (R24). -/
  features         : List Feature
  /-- `HaveEL(EL2)`. -/
  haveEL2          : Bool
  /-- `HaveEL(EL3)`. -/
  haveEL3          : Bool
  archVersion      : ArchVersion
  /-- The four ID register constants (R31, R555). -/
  idAa64dfr0       : Dword
  idAa64isar1      : Dword
  idAa64isar2      : Dword
  idAa64smfr0      : Dword
  /-- `P-DSSBS-RESET` (R133). -/
  dssbsReset       : Bool
  /-- `P-EE-RESET` (R156). -/
  eeReset          : Bool
  /-- `P-ITD-IMPL` (R174). -/
  itdImplemented   : Bool
  /-- `P-ITD-IT-WIDTH`: IT is treated as a 16-bit instruction (R174). -/
  itTreatedAs16Bit : Bool
  /-- `P-CP15BEN-IMPL` (R176). -/
  cp15benImplemented : Bool
  /-- `P-CP15BEN-FIXED`: the value when CP15BEN is not implemented. -/
  cp15benFixed     : Bool
  /-- `P-HFGRTR2-nERXGSR-RES0` (R227). -/
  nerxgsrRes0      : Bool
  /-- `TCR2_PTTWI_RO0` (R392). -/
  pttwiReadOnlyZero : Bool
  /-- `ASID16` (R448). -/
  asid16           : Bool
  /-- `PARange` (R449). -/
  paRange          : PARange
  /-- The granule sizes that are implemented (R450, R457). -/
  granules         : List Granule
  /-- `TG_FALLBACK` for TG0 and TG1: one of the implemented sizes (`granulesLegal`). -/
  tg0Fallback      : Granule
  tg1Fallback      : Granule
  /-- `TG_READBACK`: an MRS returns the size chosen, not the value programmed. -/
  tgReadbackChosen : Bool
  /-- `ISAR2_TRAPPED_BY_TID3` (R318). -/
  isar2TrappedByTid3 : Bool
  /-- `SMFR0_TRAPPED_BY_TID3` (R356). -/
  smfr0TrappedByTid3 : Bool
  /-- `TWED_DEFAULT_DELAY` (R570, D18), in steps. -/
  twedDefaultDelay : Nat
  trapCodes        : TrapCodes
  reservedAs       : ReservedBehaviour
  /-- The IMPLEMENTATION DEFINED choice inside `EL3SDDUndefPriority()` (R509). -/
  el3SddUndefFirst : Bool
  entry            : EntryInterface
  cross            : CrossInputs
  deriving DecidableEq, Repr

/-- `IsFeatureImplemented(f)` (R24). -/
def Config.has (c : Config) (f : Feature) : Bool := c.features.contains f

/-- `HaveEL(el)` (00_scope.md section 6: EL0 and EL1 always). -/
def Config.haveEL (c : Config) : EL → Bool
  | .el0 => true
  | .el1 => true
  | .el2 => c.haveEL2
  | .el3 => c.haveEL3

/-- `HighestEL`: the largest level that is implemented (R24). -/
def Config.highestEL (c : Config) : EL :=
  if c.haveEL3 then .el3 else if c.haveEL2 then .el2 else .el1

/-- "From Armv8.n" and "From Armv9.n" (R242): Armv9.m counts as Armv8.(m+5) (PRESUMED, log entry 33). -/
def ArchVersion.atLeast (v : ArchVersion) (major minor : Nat) : Bool :=
  let rank := fun (a b : Nat) => if a = 9 then b + 5 else b
  if v.major = 8 ∧ major = 9 then false else decide (rank major minor ≤ rank v.major v.minor)

/-- How many draw numbers one instruction has for itself: instruction `k` draws at `freeCount + 0 .. freeCount +
63`. -/
def Config.drawSlots : Nat := 64

/-- The choice among alternatives that draw `n` makes (UNKNOWN, CONSTRAINED UNPREDICTABLE and hazard choices). -/
opaque Config.freeChoice : Nat → Nat

/-- The choice among alternatives that draw `n` makes for the field of a register at bit `lo`. -/
opaque Config.freeFieldChoice : (n lo : Nat) → Nat

/-- The bit that draw `n` gives. -/
opaque Config.freeBit : Nat → Bool

/-- The 64-bit value that draw `n` gives. -/
opaque Config.freeDword : Nat → Dword

end Sys2Proof
end

