-- ==== Sys2Proof/Machine/Bits.lean ====
section
/-! DEFINITION. Bit fields, masks and the shapes of reserved bits (spec/00_scope.md section 5; D3). -/

namespace Sys2Proof.Machine

/-- Bit `n` of a register, `REG[n]`. -/
def bitAt (v : Dword) (n : Nat) : Bool := v.getLsbD n

/-- `REG[lo+w-1:lo]` as an unsigned number. -/
def fieldAt (v : Dword) (lo w : Nat) : Nat := (v.extractLsb' lo w).toNat

/-- The mask of `w` bits from bit `lo`. -/
def fieldMask (lo w : Nat) : Dword := BitVec.ofNat 64 ((2 ^ w - 1) <<< lo)

/-- `v` with the bits of `m` taken from `w`. -/
def mergeBits (m v w : Dword) : Dword := (w &&& m) ||| (v &&& ~~~m)

/-- What a bit is under a presence condition: a field, or a reserved constant. -/
inductive Reservation where
  | field | res0 | res1
  deriving DecidableEq, Repr

/-- `presentIf c r`: a field when `c`, otherwise `r`. -/
def presentIf (c : Bool) (otherwise : Reservation) : Reservation := if c then .field else otherwise

/-- D3: a bit is storage when some run-time context makes it a field (case b); a bit that every context reserves is
a constant (case a).  One that every context reserves, to constants that differ, holds no storage either: its stored
copy is 0, and a read returns the constant of the context it is made in (DEDUCED, log entry 14). -/
def implementationReservation (perContext : List Reservation) : Reservation :=
  if perContext.all (· == .res1) then .res1
  else if perContext.all (· != .field) then .res0
  else .field

/-- One run of bits of a register with what D3 makes of it on this implementation. -/
structure BitRun where
  lo     : Nat
  width  : Nat
  status : Reservation
  deriving DecidableEq, Repr

/-- The constant bits of a register: a mask of the bits that read 0 and a mask of the bits that read 1. -/
structure ConstantBits where
  zeros : Dword
  ones  : Dword
  deriving DecidableEq, Repr

/-- Collect the constant bits of a layout. -/
def constantBits (runs : List BitRun) : ConstantBits :=
  runs.foldl (fun k r =>
    match r.status with
    | .field => k
    | .res0 => { k with zeros := k.zeros ||| fieldMask r.lo r.width }
    | .res1 => { k with ones := k.ones ||| fieldMask r.lo r.width }) ⟨0, 0⟩

/-- D3 (a): the constant bits read as their constant and a write does not change them; every other bit is kept. -/
def ConstantBits.apply (k : ConstantBits) (v : Dword) : Dword := (v &&& ~~~(k.zeros ||| k.ones)) ||| k.ones

/-- The bits of a write mask that stand on storage: a mask keeps nothing of a constant bit. -/
def ConstantBits.maskOnStorage (k : ConstantBits) (m : Dword) : Dword := m &&& ~~~(k.zeros ||| k.ones)

/-- R195: a write of `v` over `old` under the write mask `m`: a 1 in `m` keeps the old bit. -/
def maskedWrite (v old m : Dword) : Dword := (v &&& ~~~m) ||| (old &&& m)

/-- Read the bytes `bs`, the first at the lowest address, as one little-endian value (R65). -/
def littleEndian : List Byte → Dword
  | [] => 0
  | b :: bs => b.setWidth 64 ||| (littleEndian bs <<< 8)

/-- The eight bytes of `v`, least significant first. -/
def bytesOfDword (v : Dword) : List Byte :=
  [v.extractLsb' 0 8, v.extractLsb' 8 8, v.extractLsb' 16 8, v.extractLsb' 24 8,
   v.extractLsb' 32 8, v.extractLsb' 40 8, v.extractLsb' 48 8, v.extractLsb' 56 8]

/-- The eight bytes of `v` in the order they stand in memory (R65, D6). -/
def orderedBytes (bigEndian : Bool) (v : Dword) : List Byte :=
  if bigEndian then (bytesOfDword v).reverse else bytesOfDword v

/-- The value that eight bytes in memory order hold (R65, D6). -/
def valueOfBytes (bigEndian : Bool) (bs : List Byte) : Dword :=
  littleEndian (if bigEndian then bs.reverse else bs)

end Sys2Proof.Machine
end

