-- ==== Sys2Proof/Machine/Layout.lean ====
section
/-! DEFINITION. The layouts of the four registers with read/write fields (spec/10_state.md R22, spec/43 R211, spec/48
R381, spec/49 R421) and the constant bits that D3 derives from them. -/

namespace Sys2Proof.Machine

/-! ## SCTLR_EL2 (R22) -/

/-- The fields of SCTLR_EL2, from bit 63 down (R22). -/
inductive SctlrField where
  /-- TIDCP, bit [63] (R120). -/
  | tidcp
  /-- SPINTMASK, bit [62] (R121). -/
  | spintmask
  /-- NMI, bit [61] (R122). -/
  | nmi
  /-- EnTP2, bit [60] (R123). -/
  | enTP2
  /-- TCSO, bit [59] (R124). -/
  | tcso
  /-- TCSO0, bit [58] (R125). -/
  | tcso0
  /-- EPAN, bit [57] (R126). -/
  | epan
  /-- EnALS, bit [56] (R127). -/
  | enALS
  /-- EnAS0, bit [55] (R128). -/
  | enAS0
  /-- EnASR, bit [54] (R129). -/
  | enASR
  /-- Reserved, bits [53:50] (R130). -/
  | res53_50
  /-- TWEDEL, bits [49:46] (R131). -/
  | twedel
  /-- TWEDEn, bit [45] (R132). -/
  | twedEn
  /-- DSSBS, bit [44] (R133). -/
  | dssbs
  /-- ATA, bit [43] (R134). -/
  | ata
  /-- ATA0, bit [42] (R135). -/
  | ata0
  /-- TCF, bits [41:40] (R136). -/
  | tcf
  /-- TCF0, bits [39:38] (R137). -/
  | tcf0
  /-- ITFSB, bit [37] (R138). -/
  | itfsb
  /-- BT, bit [36] (R139). -/
  | bt
  /-- BT0, bit [35] (R140). -/
  | bt0
  /-- EnFPM, bit [34] (R141). -/
  | enFPM
  /-- MSCEn, bit [33] (R142). -/
  | mscEn
  /-- CMOW, bit [32] (R143). -/
  | cmow
  /-- EnIA, bit [31] (R150). -/
  | enIA
  /-- EnIB, bit [30] (R151). -/
  | enIB
  /-- LSMAOE, bit [29] (R152). -/
  | lsmaoe
  /-- nTLSMD, bit [28] (R153). -/
  | nTLSMD
  /-- EnDA, bit [27] (R154). -/
  | enDA
  /-- UCI, bit [26] (R155). -/
  | uci
  /-- EE, bit [25] (R156). -/
  | ee
  /-- E0E, bit [24] (R157). -/
  | e0e
  /-- SPAN, bit [23] (R158). -/
  | span
  /-- EIS, bit [22] (R159). -/
  | eis
  /-- IESB, bit [21] (R160). -/
  | iesb
  /-- TSCXT, bit [20] (R161). -/
  | tscxt
  /-- WXN, bit [19] (R162). -/
  | wxn
  /-- nTWE, bit [18] (R163). -/
  | nTWE
  /-- Reserved, bit [17] (R164). -/
  | res17
  /-- nTWI, bit [16] (R165). -/
  | nTWI
  /-- UCT, bit [15] (R166). -/
  | uct
  /-- DZE, bit [14] (R167). -/
  | dze
  /-- EnDB, bit [13] (R168). -/
  | enDB
  /-- I, bit [12] (R169). -/
  | i
  /-- EOS, bit [11] (R170). -/
  | eos
  /-- EnRCTX, bit [10] (R171). -/
  | enRCTX
  /-- Reserved, bit [9] (R172). -/
  | res9
  /-- SED, bit [8] (R173). -/
  | sed
  /-- ITD, bit [7] (R174). -/
  | itd
  /-- nAA, bit [6] (R175). -/
  | nAA
  /-- CP15BEN, bit [5] (R176). -/
  | cp15ben
  /-- SA0, bit [4] (R177). -/
  | sa0
  /-- SA, bit [3] (R178). -/
  | sa
  /-- C, bit [2] (R179). -/
  | c
  /-- A, bit [1] (R180). -/
  | a
  /-- M, bit [0] (R181). -/
  | m
  deriving DecidableEq, Repr

/-- Every field once. -/
def sctlrFields : List SctlrField :=
  [.tidcp, .spintmask, .nmi, .enTP2, .tcso, .tcso0, .epan, .enALS, .enAS0, .enASR, .res53_50, .twedel,
   .twedEn, .dssbs, .ata, .ata0, .tcf, .tcf0, .itfsb, .bt, .bt0, .enFPM, .mscEn, .cmow, .enIA, .enIB,
   .lsmaoe, .nTLSMD, .enDA, .uci, .ee, .e0e, .span, .eis, .iesb, .tscxt, .wxn, .nTWE, .res17, .nTWI,
   .uct, .dze, .enDB, .i, .eos, .enRCTX, .res9, .sed, .itd, .nAA, .cp15ben, .sa0, .sa, .c, .a, .m]

/-- The lowest bit of a field. -/
def SctlrField.lo : SctlrField → Nat
  | .tidcp => 63
  | .spintmask => 62
  | .nmi => 61
  | .enTP2 => 60
  | .tcso => 59
  | .tcso0 => 58
  | .epan => 57
  | .enALS => 56
  | .enAS0 => 55
  | .enASR => 54
  | .res53_50 => 50
  | .twedel => 46
  | .twedEn => 45
  | .dssbs => 44
  | .ata => 43
  | .ata0 => 42
  | .tcf => 40
  | .tcf0 => 38
  | .itfsb => 37
  | .bt => 36
  | .bt0 => 35
  | .enFPM => 34
  | .mscEn => 33
  | .cmow => 32
  | .enIA => 31
  | .enIB => 30
  | .lsmaoe => 29
  | .nTLSMD => 28
  | .enDA => 27
  | .uci => 26
  | .ee => 25
  | .e0e => 24
  | .span => 23
  | .eis => 22
  | .iesb => 21
  | .tscxt => 20
  | .wxn => 19
  | .nTWE => 18
  | .res17 => 17
  | .nTWI => 16
  | .uct => 15
  | .dze => 14
  | .enDB => 13
  | .i => 12
  | .eos => 11
  | .enRCTX => 10
  | .res9 => 9
  | .sed => 8
  | .itd => 7
  | .nAA => 6
  | .cp15ben => 5
  | .sa0 => 4
  | .sa => 3
  | .c => 2
  | .a => 1
  | .m => 0

/-- The width of a field. -/
def SctlrField.width : SctlrField → Nat
  | .res53_50 => 4
  | .twedel => 4
  | .tcf => 2
  | .tcf0 => 2
  | _ => 1

/-- R173: "the implementation does not support mixed-endian operation at any Exception level" is the negation.  No
source says which features mean that it does; FEAT_MixedEnd or FEAT_MixedEndEL0, the two that R156 and R157 name, is
the model's reading (DEDUCED, log entry 66). -/
def mixedEndianSomewhere (c : Config) : Bool := c.has .MixedEnd || c.has .MixedEndEL0

/-- The presence condition and the "otherwise" of each field in one run-time context (R22 and the field rules):
`host2` is `ELIsInHost(EL2)`, `host0` is `ELIsInHost(EL0)`. -/
def sctlrStatus (c : Config) (host2 host0 : Bool) : SctlrField → Reservation
  | .tidcp => presentIf (c.has .TIDCP1 && host2) .res0
  | .spintmask => presentIf (c.has .NMI) .res0
  | .nmi => presentIf (c.has .NMI) .res0
  | .enTP2 => presentIf (c.has .SME && host2) .res0
  | .tcso => presentIf (c.has .MTE_STORE_ONLY) .res0
  | .tcso0 => presentIf (c.has .MTE_STORE_ONLY && host2) .res0
  | .epan => presentIf (c.has .PAN3 && host2) .res0
  | .enALS => presentIf (c.has .LS64 && host2) .res0
  | .enAS0 => presentIf (c.has .LS64_ACCDATA && host2) .res0
  | .enASR => presentIf (c.has .LS64_V && host2) .res0
  | .res53_50 => .res0
  | .twedel => presentIf (c.has .TWED && host2) .res0
  | .twedEn => presentIf (c.has .TWED && host2) .res0
  | .dssbs => presentIf (c.has .SSBS) .res0
  | .ata => presentIf (c.has .MTE2) .res0
  | .ata0 => presentIf (c.has .MTE2 && host2) .res0
  | .tcf => presentIf (c.has .MTE2) .res0
  | .tcf0 => presentIf (c.has .MTE2 && host2) .res0
  | .itfsb => presentIf (c.has .MTE_ASYNC) .res0
  | .bt => presentIf (c.has .BTI) .res0
  | .bt0 => presentIf (c.has .BTI && host2) .res0
  | .enFPM => presentIf (c.has .FPMR && host0) .res0
  | .mscEn => presentIf (c.has .MOPS && host2) .res0
  | .cmow => presentIf (c.has .CMOW && host2) .res0
  | .enIA => presentIf (c.has .PAuth) .res0
  | .enIB => presentIf (c.has .PAuth) .res0
  | .lsmaoe => presentIf (c.has .LSMAOC && host2) .res1
  | .nTLSMD => presentIf (c.has .LSMAOC && host2) .res1
  | .enDA => presentIf (c.has .PAuth) .res0
  | .uci => presentIf host2 .res0
  | .ee => presentIf (c.has .MixedEnd) (if c.has .BigEnd then .res1 else .res0)
  | .e0e => presentIf (host2 && c.has .MixedEndEL0) (if c.has .BigEndEL0 then .res1 else .res0)
  | .span => presentIf host2 .res1
  | .eis => presentIf (c.has .ExS) .res1
  | .iesb => presentIf (c.has .IESB) .res0
  | .tscxt => presentIf ((c.has .CSV2_2 || c.has .CSV2_1p2) && host2)
      (if !c.has .CSV2_2 && !c.has .CSV2_1p2 && host0 then .res1 else .res0)
  | .wxn => .field
  | .nTWE => presentIf host2 .res1
  | .res17 => .res0
  | .nTWI => presentIf host2 .res1
  | .uct => presentIf host2 .res0
  | .dze => presentIf host2 .res0
  | .enDB => presentIf (c.has .PAuth) .res0
  | .i => .field
  | .eos => presentIf (c.has .ExS) .res1
  | .enRCTX => presentIf (c.has .SPECRES && host2) .res0
  | .res9 => .res0
  | .sed => if host2 then (if c.has .AA32EL0 then presentIf (mixedEndianSomewhere c) .res1 else .res1) else .res0
  | .itd => if host2 then (if c.has .AA32EL0 then presentIf c.itdImplemented .res0 else .res1) else .res0
  | .nAA => presentIf (c.has .LSE2) .res0
  | .cp15ben =>
    if !host2 then .res1
    else if !c.has .AA32EL0 then .res0
    else if c.cp15benImplemented then .field
    else if c.cp15benFixed then .res1 else .res0
  | .sa0 => presentIf host2 .res1
  | .sa => .field
  | .c => .field
  | .a => .field
  | .m => .field

/-- The run-time contexts an implementation can be in (00_scope.md section 6: both host conditions need FEAT_VHE and
EL2, and `ELIsInHost(EL0)` implies `ELIsInHost(EL2)`). -/
def hostContexts (c : Config) : List (Bool × Bool) :=
  if c.has .VHE && c.haveEL2 then [(false, false), (true, false), (true, true)] else [(false, false)]

/-- What D3 makes of each field of SCTLR_EL2. -/
def sctlrRuns (c : Config) : List BitRun :=
  sctlrFields.map fun f =>
    ⟨f.lo, f.width, implementationReservation ((hostContexts c).map fun h => sctlrStatus c h.1 h.2 f)⟩

/-- D3 (a) for SCTLR_EL2. -/
def sctlrConstants (c : Config) : ConstantBits := constantBits (sctlrRuns c)

/-- The bits of SCTLR_EL2 that every context reserves and the current one reserves to 1 (SED, ITD, TSCXT and CP15BEN
on an implementation without their features have a constant that depends on the context). -/
def sctlrReservedOnes (c : Config) (host2 host0 : Bool) : Dword :=
  (sctlrFields.filter fun f =>
    ((hostContexts c).all fun h => sctlrStatus c h.1 h.2 f != .field) && sctlrStatus c host2 host0 f == .res1).foldl
    (fun m f => m ||| fieldMask f.lo f.width) 0

/-! ## HFGRTR2_EL2 (R211) -/

/-- What D3 makes of each field of HFGRTR2_EL2: no presence condition depends on run-time state. -/
def hfgrtr2Runs (c : Config) : List BitRun :=
  let srmask := presentIf (c.has .SRMASK) .res0
  [⟨15, 49, .res0⟩,
   ⟨14, 1, srmask⟩,    -- nACTLRALIAS_EL1 (R214)
   ⟨13, 1, srmask⟩,    -- nACTLRMASK_EL1 (R215)
   ⟨12, 1, srmask⟩,    -- nTCR2ALIAS_EL1 (R216)
   ⟨11, 1, srmask⟩,    -- nTCRALIAS_EL1 (R217)
   ⟨10, 1, srmask⟩,    -- nSCTLR2ALIAS_EL1 (R218)
   ⟨9, 1, srmask⟩,     -- nSCTLRALIAS_EL1 (R219)
   ⟨8, 1, srmask⟩,     -- nCPACRALIAS_EL1 (R220)
   ⟨7, 1, srmask⟩,     -- nTCR2MASK_EL1 (R221)
   ⟨6, 1, srmask⟩,     -- nTCRMASK_EL1 (R222)
   ⟨5, 1, srmask⟩,     -- nSCTLR2MASK_EL1 (R223)
   ⟨4, 1, srmask⟩,     -- nSCTLRMASK_EL1 (R224)
   ⟨3, 1, srmask⟩,     -- nCPACRMASK_EL1 (R225)
   ⟨2, 1, presentIf (c.has .THE) .res0⟩,                        -- nRCWSMASK_EL1 (R226)
   ⟨1, 1, presentIf (c.has .RASv2 && !c.nerxgsrRes0) .res0⟩,    -- nERXGSR_EL1 (R227)
   ⟨0, 1, presentIf (c.has .PFAR) .res0⟩]                       -- nPFAR_EL1 (R228)

/-- D3 (a) for HFGRTR2_EL2. -/
def hfgrtr2Constants (c : Config) : ConstantBits := constantBits (hfgrtr2Runs c)

/-! ## TCR2_EL1 (R381) -/

/-- The fields of TCR2_EL1. -/
inductive Tcr2Field where
  /-- FNGNA1, bit [21] (R384). -/
  | fngna1
  /-- FNGNA0, bit [20] (R385). -/
  | fngna0
  /-- FNG1, bit [18] (R386). -/
  | fng1
  /-- FNG0, bit [17] (R387). -/
  | fng0
  /-- A2, bit [16] (R388). -/
  | a2
  /-- DisCH1, bit [15] (R389). -/
  | disCH1
  /-- DisCH0, bit [14] (R390). -/
  | disCH0
  /-- HAFT, bit [11] (R391). -/
  | haft
  /-- PTTWI, bit [10] (R392). -/
  | pttwi
  /-- D128, bit [5] (R393). -/
  | d128
  /-- AIE, bit [4] (R394). -/
  | aie
  /-- POE, bit [3] (R395). -/
  | poe
  /-- E0POE, bit [2] (R396). -/
  | e0poe
  /-- PIE, bit [1] (R397). -/
  | pie
  /-- PnCH, bit [0] (R398). -/
  | pnch
  deriving DecidableEq, Repr

/-- Every named field once. -/
def tcr2Fields : List Tcr2Field :=
  [.fngna1, .fngna0, .fng1, .fng0, .a2, .disCH1, .disCH0, .haft, .pttwi, .d128,
   .aie, .poe, .e0poe, .pie, .pnch]

/-- The bit of a field. -/
def Tcr2Field.pos : Tcr2Field → Nat
  | .fngna1 => 21
  | .fngna0 => 20
  | .fng1 => 18
  | .fng0 => 17
  | .a2 => 16
  | .disCH1 => 15
  | .disCH0 => 14
  | .haft => 11
  | .pttwi => 10
  | .d128 => 5
  | .aie => 4
  | .poe => 3
  | .e0poe => 2
  | .pie => 1
  | .pnch => 0

/-- The status of a field for a stored value `d128` of TCR2_EL1.D128 (R381, R389, R390, R394, R397, R398, R405). -/
def tcr2Status (c : Config) (d128 : Bool) : Tcr2Field → Reservation
  | .fngna1 => presentIf (c.has .THE) .res0
  | .fngna0 => presentIf (c.has .THE) .res0
  | .fng1 => presentIf (c.has .ASID2) .res0
  | .fng0 => presentIf (c.has .ASID2) .res0
  | .a2 => presentIf (c.has .ASID2) .res0
  | .disCH1 => presentIf (c.has .D128 && d128) .res0
  | .disCH0 => presentIf (c.has .D128 && d128) .res0
  | .haft => presentIf (c.has .HAFT) .res0
  | .pttwi => presentIf (c.has .THE && !c.pttwiReadOnlyZero) .res0
  | .d128 => presentIf (c.has .D128) .res0
  | .aie => if c.has .AIE then (if d128 then .res1 else .field) else .res0
  | .poe => presentIf (c.has .S1POE) .res0
  | .e0poe => presentIf (c.has .S1POE) .res0
  | .pie => if c.has .S1PIE then (if d128 then .res1 else .field) else .res0
  | .pnch => presentIf (c.has .THE && !d128) .res0

/-- The values TCR2_EL1.D128 can have. -/
def d128Contexts (c : Config) : List Bool := if c.has .D128 then [false, true] else [false]

/-- What D3 makes of each bit of TCR2_EL1; bits 63:22, 19, 13:12 and 9:6 are always reserved (R383). -/
def tcr2Runs (c : Config) : List BitRun :=
  [⟨22, 42, .res0⟩, ⟨19, 1, .res0⟩, ⟨12, 2, .res0⟩, ⟨6, 4, .res0⟩] ++
  tcr2Fields.map fun f =>
    ⟨f.pos, 1, implementationReservation ((d128Contexts c).map fun d => tcr2Status c d f)⟩

/-- D3 (a) for TCR2_EL1. -/
def tcr2Constants (c : Config) : ConstantBits := constantBits (tcr2Runs c)

/-! ## TCR_EL1 (R421) -/

/-- The fields of TCR_EL1, from bit 61 down. -/
inductive TcrField where
  /-- MTX1, bit [61] (R423). -/
  | mtx1
  /-- MTX0, bit [60] (R424). -/
  | mtx0
  /-- DS, bit [59] (R425). -/
  | ds
  /-- TCMA1, bit [58] (R426). -/
  | tcma1
  /-- TCMA0, bit [57] (R427). -/
  | tcma0
  /-- E0PD1, bit [56] (R428). -/
  | e0pd1
  /-- E0PD0, bit [55] (R429). -/
  | e0pd0
  /-- NFD1, bit [54] (R430). -/
  | nfd1
  /-- NFD0, bit [53] (R431). -/
  | nfd0
  /-- TBID1, bit [52] (R432). -/
  | tbid1
  /-- TBID0, bit [51] (R433). -/
  | tbid0
  /-- HWU162, bit [50] (R434). -/
  | hwu162
  /-- HWU161, bit [49] (R435). -/
  | hwu161
  /-- HWU160, bit [48] (R436). -/
  | hwu160
  /-- HWU159, bit [47] (R437). -/
  | hwu159
  /-- HWU062, bit [46] (R438). -/
  | hwu062
  /-- HWU061, bit [45] (R439). -/
  | hwu061
  /-- HWU060, bit [44] (R440). -/
  | hwu060
  /-- HWU059, bit [43] (R441). -/
  | hwu059
  /-- HPD1, bit [42] (R442). -/
  | hpd1
  /-- HPD0, bit [41] (R443). -/
  | hpd0
  /-- HD, bit [40] (R444). -/
  | hd
  /-- HA, bit [39] (R445). -/
  | ha
  /-- TBI1, bit [38] (R446). -/
  | tbi1
  /-- TBI0, bit [37] (R447). -/
  | tbi0
  /-- AS, bit [36] (R448). -/
  | as
  /-- IPS, bits [34:32] (R449). -/
  | ips
  /-- TG1, bits [31:30] (R450). -/
  | tg1
  /-- SH1, bits [29:28] (R451). -/
  | sh1
  /-- ORGN1, bits [27:26] (R452). -/
  | orgn1
  /-- IRGN1, bits [25:24] (R453). -/
  | irgn1
  /-- EPD1, bit [23] (R454). -/
  | epd1
  /-- A1, bit [22] (R455). -/
  | a1
  /-- T1SZ, bits [21:16] (R456). -/
  | t1sz
  /-- TG0, bits [15:14] (R457). -/
  | tg0
  /-- SH0, bits [13:12] (R458). -/
  | sh0
  /-- ORGN0, bits [11:10] (R459). -/
  | orgn0
  /-- IRGN0, bits [9:8] (R460). -/
  | irgn0
  /-- EPD0, bit [7] (R461). -/
  | epd0
  /-- T0SZ, bits [5:0] (R462). -/
  | t0sz
  deriving DecidableEq, Repr

/-- Every named field once. -/
def tcrFields : List TcrField :=
  [.mtx1, .mtx0, .ds, .tcma1, .tcma0, .e0pd1, .e0pd0, .nfd1, .nfd0, .tbid1, .tbid0, .hwu162, .hwu161,
   .hwu160, .hwu159, .hwu062, .hwu061, .hwu060, .hwu059, .hpd1, .hpd0, .hd, .ha, .tbi1, .tbi0, .as,
   .ips, .tg1, .sh1, .orgn1, .irgn1, .epd1, .a1, .t1sz, .tg0, .sh0, .orgn0, .irgn0, .epd0, .t0sz]

/-- The lowest bit of a field. -/
def TcrField.lo : TcrField → Nat
  | .mtx1 => 61
  | .mtx0 => 60
  | .ds => 59
  | .tcma1 => 58
  | .tcma0 => 57
  | .e0pd1 => 56
  | .e0pd0 => 55
  | .nfd1 => 54
  | .nfd0 => 53
  | .tbid1 => 52
  | .tbid0 => 51
  | .hwu162 => 50
  | .hwu161 => 49
  | .hwu160 => 48
  | .hwu159 => 47
  | .hwu062 => 46
  | .hwu061 => 45
  | .hwu060 => 44
  | .hwu059 => 43
  | .hpd1 => 42
  | .hpd0 => 41
  | .hd => 40
  | .ha => 39
  | .tbi1 => 38
  | .tbi0 => 37
  | .as => 36
  | .ips => 32
  | .tg1 => 30
  | .sh1 => 28
  | .orgn1 => 26
  | .irgn1 => 24
  | .epd1 => 23
  | .a1 => 22
  | .t1sz => 16
  | .tg0 => 14
  | .sh0 => 12
  | .orgn0 => 10
  | .irgn0 => 8
  | .epd0 => 7
  | .t0sz => 0

/-- The width of a field. -/
def TcrField.width : TcrField → Nat
  | .ips => 3
  | .tg1 => 2
  | .sh1 => 2
  | .orgn1 => 2
  | .irgn1 => 2
  | .t1sz => 6
  | .tg0 => 2
  | .sh0 => 2
  | .orgn0 => 2
  | .irgn0 => 2
  | .t0sz => 6
  | _ => 1

/-- The status of a field for a stored value `d128` of TCR2_EL1.D128 (R421, R425, R448). -/
def tcrStatus (c : Config) (d128 : Bool) : TcrField → Reservation
  | .mtx1 => presentIf (c.has .MTE_NO_ADDRESS_TAGS || c.has .MTE_CANONICAL_TAGS) .res0
  | .mtx0 => presentIf (c.has .MTE_NO_ADDRESS_TAGS || c.has .MTE_CANONICAL_TAGS) .res0
  | .ds => presentIf (c.has .LPA2 && (!c.has .D128 || !d128)) .res0
  | .tcma1 => presentIf (c.has .MTE2) .res0
  | .tcma0 => presentIf (c.has .MTE2) .res0
  | .e0pd1 => presentIf (c.has .E0PD) .res0
  | .e0pd0 => presentIf (c.has .E0PD) .res0
  | .nfd1 => presentIf (c.has .SVE) .res0
  | .nfd0 => presentIf (c.has .SVE) .res0
  | .tbid1 => presentIf (c.has .PAuth) .res0
  | .tbid0 => presentIf (c.has .PAuth) .res0
  | .hwu162 => presentIf (c.has .HPDS2) .res0
  | .hwu161 => presentIf (c.has .HPDS2) .res0
  | .hwu160 => presentIf (c.has .HPDS2) .res0
  | .hwu159 => presentIf (c.has .HPDS2) .res0
  | .hwu062 => presentIf (c.has .HPDS2) .res0
  | .hwu061 => presentIf (c.has .HPDS2) .res0
  | .hwu060 => presentIf (c.has .HPDS2) .res0
  | .hwu059 => presentIf (c.has .HPDS2) .res0
  | .hpd1 => presentIf (c.has .HPDS) .res0
  | .hpd0 => presentIf (c.has .HPDS) .res0
  | .hd => presentIf (c.has .HAFDBS) .res0
  | .ha => presentIf (c.has .HAFDBS) .res0
  | .as => presentIf c.asid16 .res0
  | _ => .field

/-- What D3 makes of each bit of TCR_EL1; bits 63:62, 35 and 6 are always reserved (R422). -/
def tcrRuns (c : Config) : List BitRun :=
  [⟨62, 2, .res0⟩, ⟨35, 1, .res0⟩, ⟨6, 1, .res0⟩] ++
  tcrFields.map fun f =>
    ⟨f.lo, f.width, implementationReservation ((d128Contexts c).map fun d => tcrStatus c d f)⟩

/-- D3 (a) for TCR_EL1. -/
def tcrConstants (c : Config) : ConstantBits := constantBits (tcrRuns c)

/-! ## ID_AA64SMFR0_EL1 (R355) -/

/-- Bits [62:61], [51:49], [31], [27:26], [22:17] and [15:1] are RES0 in a read-only register: they read as 0. -/
def smfr0Reserved : Dword := 0x600E00008C7EFFFE

/-- Every bit that is RES0 on this implementation: all of them without FEAT_SME (R357(a)); I16I32 and BI32I32 without
FEAT_SME2 (R337, R345). -/
def smfr0Res0 (c : Config) : Dword :=
  if !c.has .SME then 0xFFFFFFFFFFFFFFFF
  else if c.has .SME2 then smfr0Reserved
  else smfr0Reserved ||| fieldMask 44 4 ||| fieldMask 33 1

end Sys2Proof.Machine
end

