-- ==== Sys2Proof/Machine/State.lean ====
section
/-! DEFINITION. The state of the PE (spec/10_state.md, spec/60_exceptions.md R521, spec/70_reset_and_hazards.md) as
plain data, the reasons a step can stop, and the state right after reset. -/

namespace Sys2Proof.Machine

/-! ## Why a step can stop -/

/-- Faults: the machine stops where the spec names a fault and gives no entry for it. -/
inductive Fault where
  /-- `step` raises it when `pc` is not a multiple of 4 (R70): the spec names the PC alignment fault and gives it no
  code, target or entry.  Safe: the hardware goes on at a handler. -/
  | pcAlignment
  deriving DecidableEq, Repr

/-- Refusals: the word at `pc` has no meaning in this spec (D14: "an explicit outside-the-spec outcome"). -/
inductive Refusal where
  /-- An accessor of the opcode table without a meaning.  No arm of `exec` raises it.  Safe. -/
  | notModelled (mnemonic : String)
  /-- `step` raises it on an MRS or MSR of a coordinate outside R93 (R96, D14).  Safe. -/
  | registerOutsideSpec (w : InstrWord)
  /-- `step` raises it on an MRS or MSR of the IMPLEMENTATION DEFINED space that SCTLR_EL2.TIDCP does not trap: the
  spec does not execute it (R97, 93_implementation_defined.md section 2.1).  Safe. -/
  | implementationDefinedRegister (w : InstrWord)
  /-- `step` raises it on a word that is not an MRS or MSR (register): outside the spec (R95 step 1, R3).  Safe. -/
  | instructionOutsideSpec (w : InstrWord)
  /-- `exceptionReturn` raises it at EL0, which has no saved state to return to, and when the saved level is above
  the current one, not implemented, or not using AArch64: the checks of the return instruction are not in the
  sources (R514, R521; log entries 39, 63).  Safe.  No instruction of the table reaches it. -/
  | returnOutsideSpec
  deriving DecidableEq, Repr

/-! ## Parts of the state -/

/-- The accessor name an access uses, as far as R560 distinguishes: the two names of an ordering hazard, or a name
that the hazard does not mention (an ALIAS name). -/
inductive AccessName where
  | first | second | unpaired
  deriving DecidableEq, Repr

/-- A direct access to an owned register whose place in the order of the accesses is not settled yet (R560): a write
of `value` that keeps the bits of `mask`, or a read and the value it returned. -/
inductive NamedAccess where
  | wrote (name : AccessName) (value mask : Dword)
  | read (name : AccessName) (seen : Dword)
  deriving DecidableEq, Repr

/-- A register with read/write fields that this spec owns (R30), and the hidden copies that the hazard rules let act
in its place. `base`: the stored value before the accesses of `tail`; with `tail` empty, the stored value. `tail`:
the accesses since the last explicit synchronization that the accessor-name hazard of R560 leaves unordered, in the
order in which they take place; an access under the other name may still take place between them. `unsynced`:
earlier values that may still be in force until a context synchronization event (R561). `stale`: earlier values
whose cacheable fields a TLB may still hold, until it is invalidated (R34(a), R72, R563). -/
structure CtlReg where
  base     : Dword
  tail     : List NamedAccess
  unsynced : List Dword
  stale    : List Dword
  deriving DecidableEq, Repr

/-- A register with no access in flight. -/
def CtlReg.settled (v : Dword) : CtlReg := ⟨v, [], [], []⟩

/-- PSTATE, the fields the sources name (R28). -/
structure PState where
  el     : EL
  sp     : Bool
  allint : Bool
  pan    : Bool
  ssbs   : Bool
  btype  : BitVec 2
  deriving DecidableEq, Repr

/-- The registers an exception to one level saves into, and its vector base (R501, R512, R521). -/
structure ExceptionBank where
  esr  : Dword
  spsr : Dword
  elr  : Dword
  vbar : Dword
  deriving DecidableEq, Repr

/-- The fields of HCR_EL2 that rules of this spec read, at their Effective values (R33). -/
structure HcrEl2 where
  e2h  : Bool
  tge  : Bool
  tvm  : Bool
  trvm : Bool
  nv   : Bool
  nv1  : Bool
  nv2  : Bool
  tid3 : Bool
  deriving DecidableEq, Repr

/-- The fields of HCRX_EL2 that the spec names (R33, R273, R392). -/
structure HcrxEl2 where
  tcr2en : Bool
  pttwi  : Bool
  fgtnxs : Bool
  fnxs   : Bool
  deriving DecidableEq, Repr

/-- The fields of SCR_EL3 that rules of this spec read (R33; NS, EEL2 and HXEn in 00_scope.md section 6). -/
structure ScrEl3 where
  ns     : Bool
  eel2   : Bool
  ata    : Bool
  fgten  : Bool
  fgten2 : Bool
  tcr2en : Bool
  tid3   : Bool
  hxen   : Bool
  deriving DecidableEq, Repr

/-- The fine-grained trap bits outside HFGRTR2_EL2 (R33): HFGRTR_EL2, HFGWTR_EL2 and HFGWTR2_EL2. -/
structure FineGrainedTraps where
  rSctlrEl1       : Bool
  wSctlrEl1       : Bool
  rTcrEl1         : Bool
  wTcrEl1         : Bool
  wnTcraliasEl1   : Bool
  wnTcr2aliasEl1  : Bool
  deriving DecidableEq, Repr

/-- The six `Effective*MASK_ELx()` values (R33, R195, D16). -/
structure WriteMasks where
  sctlrEl1 : Dword
  sctlrEl2 : Dword
  tcrEl1   : Dword
  tcrEl2   : Dword
  tcr2El1  : Dword
  tcr2El2  : Dword
  deriving DecidableEq, Repr

/-- The tag-fault status registers, or the faults accumulated and not yet synchronized into them (R33, R34(b),
R138). -/
structure TagFaults where
  tfsre0El1 : Dword
  tfsrEl1   : Dword
  tfsrEl2   : Dword
  deriving DecidableEq, Repr

/-- Debug state as the guards read it (R33, R509, R517). -/
structure DebugState where
  halted   : Bool
  edscrSdd : Bool
  deriving DecidableEq, Repr

/-- Registers outside the spec that field rules of SCTLR_EL2, TCR_EL1 and HFGRTR2_EL2 name as the object of a control
(R33): each an input, and the behaviour functions of the machine read them where a rule says what a read gives. -/
structure ControlledRegisters where
  ttbr0El1    : Dword
  ttbr1El1    : Dword
  tpidr2El0   : Dword
  fpmr        : Dword
  scxtnumEl0  : Dword
  ctrEl0      : Dword
  dczidEl0Dzp : Bool
  apiaKeyEl1  : BitVec 128
  apibKeyEl1  : BitVec 128
  apdaKeyEl1  : BitVec 128
  apdbKeyEl1  : BitVec 128
  errselrEl1  : Dword
  erridrEl1Num : BitVec 16
  erxgsrEl1   : Dword
  pfarEl1     : Dword
  rcwsmaskEl1 : BitVec 128
  actlrEl1    : Dword
  sctlr2El1   : Dword
  cpacrEl1    : Dword
  actlrmaskEl1  : Dword
  sctlr2maskEl1 : Dword
  cpacrmaskEl1  : Dword
  deriving DecidableEq, Repr

/-- Registers and fields that the ID field rules name only as what a feature adds (R33, last two rows). -/
structure NamedRegisters where
  mdcrEl2Hpmn     : BitVec 5
  mdcrEl2Hpmd     : Bool
  mdcrEl2Hccd     : Bool
  mdcrEl2Hpmfzo   : Bool
  mdcrEl3Mpmx     : Bool
  mdcrEl3Mccd     : Bool
  mdcrEl3Sccd     : Bool
  osdlrEl1        : Dword
  pmcrEl0Fzo      : Bool
  pmuserenrEl0Uen : Bool
  pmuacrEl1       : Dword
  pmmirEl1        : Dword
  pmsnevfrEl1     : Dword
  trblimitrEl1Nvm : Bool
  accdataEl1      : Dword
  fpcrEbf         : Bool
  fpcrAh          : Bool
  smcrEl1Fa64     : Bool
  smcrEl2Fa64     : Bool
  smcrEl3Fa64     : Bool
  deriving DecidableEq, Repr

/-- Whether an NVMem access faults, as the EL2 data access it is made as (R75): an input, for reads and for writes
(log entry 7). -/
structure NvMemFaults where
  onRead  : Bool
  onWrite : Bool
  deriving DecidableEq, Repr

/-- The faults that the spec names without a code, each a distinct outcome: those of R510 in its order, and the fault
of an NVMem access (R75). -/
inductive NamedFault where
  | spAlignment
  | alignmentDataAbort
  | alignment16Byte
  | stage1Alignment
  | panPermission
  | stage1PermissionCmow
  | executeNever
  | tagCheckSynchronous
  | tagCheckAccumulated
  | translationNoWalk
  | level0Translation
  | level0TranslationTable
  | nonFaultReported
  | nvMemAccess
  deriving DecidableEq, Repr

/-- The kinds of exception: the two that accessors raise (R501, R502), and a named fault that is taken as one
(R510). -/
inductive ExcKind where
  | systemAccessTrap
  | undefined
  | fault
  deriving DecidableEq, Repr

/-- "EC or fault name" (R521). -/
inductive ExcCause where
  | ec (code : BitVec 6)
  | fault (name : NamedFault)
  deriving DecidableEq, Repr

/-- The record R521 calls an exception, and which synchronizations its entry performed (R512). -/
structure ExcRecord where
  kind      : ExcKind
  target    : EL
  cause     : ExcCause
  iss       : Option (BitVec 25)
  ctxSync   : Bool
  errorSync : Bool
  deriving DecidableEq, Repr

/-- An exception return: the level it is made at, the level it goes to, and which synchronizations it performed
(R160, R170, R561); the model's own record, beside that of R521. -/
structure ReturnRecord where
  source    : EL
  target    : EL
  ctxSync   : Bool
  errorSync : Bool
  deriving DecidableEq, Repr

/-- Memory: the listed bytes in rising order of address; `Memory.default` is what an unlisted address reads as. -/
abbrev Memory := List Host.Cell

/-! ## The state -/

/-- The PE (R20 to R34): configuration, general registers, PSTATE, the registers the spec owns, the inputs of R33, the
exception registers, hidden state, memory, and the model's own counter of draws. -/
structure State where
  /-- The configuration parameters; no step changes them (R24). -/
  cfg         : Config
  /-- X0 to X30 (R26, D4). -/
  x           : Vector Dword 31
  /-- R27. -/
  pc          : Dword
  /-- R28. -/
  pstate      : PState
  /-- The stack pointer of each level (R29). -/
  spEl0       : Dword
  spEl1       : Dword
  spEl2       : Dword
  spEl3       : Dword
  /-- The owned registers with read/write fields (R20, R30); the ID registers are constants of `cfg` (R31). -/
  sctlrEl2    : CtlReg
  hfgrtr2El2  : CtlReg
  tcrEl1      : CtlReg
  tcr2El1     : CtlReg
  /-- Registers outside the spec that accessors read and write whole (R33). -/
  sctlrEl1    : Dword
  tcrEl2      : Dword
  tcr2El2     : Dword
  /-- TCR2_EL2.PIE and the Effective SCTLR2_EL2.NMEA as SCTLR_EL2 fields consult them (R33). -/
  tcr2El2Pie  : Bool
  sctlr2El2Nmea : Bool
  /-- EL2 is using AArch32, as `ELIsInHost` consults it (00_scope.md section 6). -/
  el2Aarch32  : Bool
  hcrEl2      : HcrEl2
  hcrxEl2     : HcrxEl2
  scrEl3      : ScrEl3
  fgt         : FineGrainedTraps
  masks       : WriteMasks
  /-- `NVMemBase` (R75, D6). -/
  nvMemBase   : Dword
  /-- Whether NVMem accesses fault (R75). -/
  nvMemFaults : NvMemFaults
  dbgState    : DebugState
  /-- ESR, SPSR, ELR, VBAR of EL1, EL2 and EL3. -/
  bankEl1     : ExceptionBank
  bankEl2     : ExceptionBank
  bankEl3     : ExceptionBank
  farEl2      : Dword
  hpfarEl2    : Dword
  /-- TFSRE0_EL1, TFSR_EL1, TFSR_EL2 (R33). -/
  tagFaults   : TagFaults
  /-- Tag Check Faults asynchronously accumulated and not yet synchronized (R34(b)). -/
  pendingTagFaults : TagFaults
  controlled  : ControlledRegisters
  named       : NamedRegisters
  /-- Cycles since a WFE would have entered the low-power state (R34(c), R570). -/
  wfeCycles   : Nat
  mem         : Memory
  /-- Bytes that a store replaced and that an instruction fetch may still return (R79). -/
  staleFetch  : List Host.Cell
  /-- The last exception taken (R521). -/
  lastException : Option ExcRecord
  /-- The last exception return (R160, R561). -/
  lastReturn  : Option ReturnRecord
  /-- The model's own counter: the number of the next draw. -/
  freeCount   : Nat
  deriving DecidableEq, Repr

/-! ## Reset -/

/-- The configuration of `State.reset`: one implementation that has EL2, EL3 and every feature an accessor of this
spec tests (DESIGN CHOICE, log entry 1).  The features that layouts consult stand first. -/
def Config.resetConfig : Config where
  features :=
    [.AA64, .VHE, .FGT, .FGT2, .TCR2, .SRMASK, .IDST, .IDTE3, .HCX, .NV, .NV2, .TIDCP1, .NMI, .SME,
     .MTE_STORE_ONLY, .PAN3, .LS64, .LS64_V, .LS64_ACCDATA, .TWED, .SSBS, .MTE2, .MTE_ASYNC, .BTI, .FPMR, .MOPS,
     .CMOW, .PAuth, .LSMAOC, .MixedEnd, .MixedEndEL0, .ExS, .IESB, .CSV2_2, .SPECRES, .AA32EL0, .LSE2, .THE,
     .RASv2, .PFAR, .ASID2, .D128, .HAFT, .AIE, .S1POE, .S1PIE, .MTE_CANONICAL_TAGS, .LPA2, .E0PD, .SVE,
     .HPDS2, .HPDS, .HAFDBS] ++
    [.CSV2_1p2, .DPB, .DPB2, .DoubleFault2, .LRCPC, .LRCPC2, .LRCPC3, .MTE, .MTE3, .MTE_ASYM_FAULT, .OCCMO,
     .SPECRES2, .WFxT, .LVA, .MTE_NO_ADDRESS_TAGS, .Debugv8p9, .DoPD, .HPMN0, .PMUv3, .PMUv3p1, .PMUv3p4,
     .PMUv3p5, .PMUv3p7, .PMUv3p8, .PMUv3p9, .TRF, .BF16, .DGH,
     .FCMA, .FRINTTS, .I8MM, .JSCVT, .PACQARMA5, .PAuth2, .FPAC, .FPACCOMBINE, .SB, .XS, .SME2, .SME2p1, .SME2p2,
     .AdvSIMD, .SVE2, .CLRBHB, .CMPBR, .CSSC, .HBC, .LUT, .LS64WB]
  haveEL2 := true
  haveEL3 := true
  archVersion := ⟨9, 6⟩
  idAa64dfr0  := 0x100F01F01010190B
  idAa64isar1 := 0x4111121101311052
  idAa64isar2 := 0x0120000010110002
  idAa64smfr0 := 0x030050FF00000000
  dssbsReset := false
  eeReset := false
  itdImplemented := true
  itTreatedAs16Bit := true
  cp15benImplemented := true
  cp15benFixed := false
  nerxgsrRes0 := false
  pttwiReadOnlyZero := false
  asid16 := true
  paRange := .bits48
  granules := [.g4K, .g16K, .g64K]
  tg0Fallback := .g4K
  tg1Fallback := .g4K
  tgReadbackChosen := false
  isar2TrappedByTid3 := true
  smfr0TrappedByTid3 := true
  twedDefaultDelay := 0
  trapCodes := ⟨0x18, 0x01, 0x01, 0x18, 0x18, 0x18⟩
  reservedAs := ⟨0, 0, 0, 0⟩
  el3SddUndefFirst := false
  entry := ⟨0x0, 0x200, 0x400, true, 0⟩
  cross := ⟨1, 1, none, 0, none, false, true, false, false⟩

/-- The stored copy of SCTLR_EL2 after a Warm reset with every UNKNOWN field drawn from `d` (R551, D3): NMI, I, C
and M are 0 when EL2 is the highest level; DSSBS and EE take their IMPLEMENTATION DEFINED values where they are
fields. -/
def sctlrEl2ResetValue (c : Config) (d : Dword) : Dword :=
  let zeros : Dword := if c.highestEL = .el2 then 0x2000000000001005 else 0
  let fixedOnes : Dword := (if c.dssbsReset then fieldMask 44 1 else 0) ||| (if c.eeReset then fieldMask 25 1 else 0)
  let fixed : Dword := fieldMask 44 1 ||| fieldMask 25 1
  (sctlrConstants c).apply (((d &&& ~~~zeros) &&& ~~~fixed) ||| fixedOnes)

/-- HFGRTR2_EL2 after a Warm reset (R552). -/
def hfgrtr2El2ResetValue (c : Config) (d : Dword) : Dword :=
  (hfgrtr2Constants c).apply (if c.highestEL = .el2 then 0 else d)

/-- TCR2_EL1 after a Warm reset (R553). -/
def tcr2El1ResetValue (c : Config) (d : Dword) : Dword :=
  (tcr2Constants c).apply (if c.highestEL = .el1 then d &&& ~~~0x0C3F#64 else d)

/-- TCR_EL1 after a Warm reset (R554). -/
def tcrEl1ResetValue (c : Config) (d : Dword) : Dword := (tcrConstants c).apply d

/-- The machine right after reset: every UNKNOWN field drawn as 0, every register outside the spec 0 (DESIGN CHOICE
and PRESUMED, log entries 8 and 9), `PSTATE.EL` the highest implemented level (D7), memory with nothing listed. -/
def State.reset : State where
  cfg := Config.resetConfig
  x := Vector.replicate 31 0
  pc := 0
  pstate := ⟨Config.resetConfig.highestEL, true, false, false, false, 0⟩
  spEl0 := 0
  spEl1 := 0
  spEl2 := 0
  spEl3 := 0
  sctlrEl2 := .settled (sctlrEl2ResetValue Config.resetConfig 0)
  hfgrtr2El2 := .settled (hfgrtr2El2ResetValue Config.resetConfig 0)
  tcrEl1 := .settled (tcrEl1ResetValue Config.resetConfig 0)
  tcr2El1 := .settled (tcr2El1ResetValue Config.resetConfig 0)
  sctlrEl1 := 0
  tcrEl2 := 0
  tcr2El2 := 0
  tcr2El2Pie := false
  sctlr2El2Nmea := false
  el2Aarch32 := false
  hcrEl2 := ⟨false, false, false, false, false, false, false, false⟩
  hcrxEl2 := ⟨false, false, false, false⟩
  scrEl3 := ⟨false, false, false, false, false, false, false, false⟩
  fgt := ⟨false, false, false, false, false, false⟩
  masks := ⟨0, 0, 0, 0, 0, 0⟩
  nvMemBase := 0
  nvMemFaults := ⟨false, false⟩
  dbgState := ⟨false, false⟩
  bankEl1 := ⟨0, 0, 0, 0⟩
  bankEl2 := ⟨0, 0, 0, 0⟩
  bankEl3 := ⟨0, 0, 0, 0⟩
  farEl2 := 0
  hpfarEl2 := 0
  tagFaults := ⟨0, 0, 0⟩
  pendingTagFaults := ⟨0, 0, 0⟩
  controlled := ⟨0, 0, 0, 0, 0, 0, false, 0, 0, 0, 0, 0, 0, 0, 0, 0, 0, 0, 0, 0, 0, 0⟩
  named := ⟨0, false, false, false, false, false, false, 0, false, false, 0, 0, 0, false, 0, false, false, false,
    false, false⟩
  wfeCycles := 0
  mem := []
  staleFetch := []
  lastException := none
  lastReturn := none
  freeCount := 0

end Sys2Proof.Machine
end

