-- ==== Sys2Proof/Machine/Primitives.lean ====
section
/-! DEFINITION. The helper primitives of spec/00_scope.md section 6, each with its standard meaning there. -/

namespace Sys2Proof.Machine

/-- `IsFeatureImplemented(f)`. -/
def State.has (s : State) (f : Feature) : Bool := s.cfg.has f

/-- `EL2Enabled()`: EL2 exists and is enabled in the current Security state. -/
def State.el2Enabled (s : State) : Bool :=
  s.cfg.haveEL2 && (!s.cfg.haveEL3 || s.scrEl3.ns || s.scrEl3.eel2)

/-- Hosts exist: `ELIsInHost` is false at every level without FEAT_VHE, and where EL2 is using AArch32 (00_scope.md
section 6). -/
def State.hostPossible (s : State) : Bool := s.has .VHE && !s.el2Aarch32

/-- `ELIsInHost(el)` (00_scope.md section 6). -/
def State.elIsInHost (s : State) : EL → Bool
  | .el0 => s.hostPossible && s.el2Enabled && s.hcrEl2.e2h && s.hcrEl2.tge
  | .el2 => s.hostPossible && s.el2Enabled && s.hcrEl2.e2h
  | .el1 => false
  | .el3 => false

/-- A64 instructions can run at `el` as far as the Execution state of EL2 goes: under an EL2 that is using AArch32, at
EL3, and at EL1 and EL0 where EL2 is not enabled (PRESUMED, log entry 63). -/
def State.runsA64At (s : State) (el : EL) : Bool :=
  !s.el2Aarch32 || el == .el3 || (el != .el2 && !s.el2Enabled)

/-- `host2`, that is `ELIsInHost(EL2)` (spec/40 conventions). -/
def State.host2 (s : State) : Bool := s.elIsInHost .el2

/-- `host0`, that is `ELIsInHost(EL0)`. -/
def State.host0 (s : State) : Bool := s.elIsInHost .el0

/-- `EffectiveHCR_EL2_NVx()` is `'000'` when EL2 is not enabled or FEAT_NV is not implemented; this is the negation.
-/
def State.nestedVirt (s : State) : Bool := s.el2Enabled && s.has .NV

/-- `EffectiveHCR_EL2_NVx()`: the Effective values of NV2, NV1, NV from bit 2 down.  State holds the Effective values,
so FEAT_NV2 is not tested here (log entry 32). -/
def State.nvx (s : State) : BitVec 3 :=
  if s.nestedVirt then
    BitVec.ofBool s.hcrEl2.nv2 ++ BitVec.ofBool s.hcrEl2.nv1 ++ BitVec.ofBool s.hcrEl2.nv
  else 0

/-- `EffectiveHCR_EL2_NVx() IN {'xx1'}`. -/
def State.nvTraps (s : State) : Bool := s.nvx.getLsbD 0

/-- `EffectiveHCR_EL2_NVx() IN {'1x1'}`. -/
def State.nv2Active (s : State) : Bool := s.nvx.getLsbD 0 && s.nvx.getLsbD 2

/-- `IsHCRXEL2Enabled()`. -/
def State.hcrxEnabled (s : State) : Bool :=
  s.has .HCX && (!s.cfg.haveEL3 || s.scrEl3.hxen) && s.el2Enabled

/-- The Effective value of HCRX_EL2.TCR2En (R382). -/
def State.hcrxTcr2En (s : State) : Bool := s.hcrxEnabled && s.hcrxEl2.tcr2en

/-- `EL3SDDUndef()` (R509): in Debug state with EDSCR.SDD == 1. -/
def State.el3SddUndef (s : State) : Bool := s.dbgState.halted && s.dbgState.edscrSdd

/-- `EL3SDDUndefPriority()` (R509). -/
def State.el3SddUndefPriority (s : State) : Bool := s.el3SddUndef && s.cfg.el3SddUndefFirst

/-- The level an UNDEFINED instruction is taken to (R502): EL1 from EL0 and EL1, EL2 from EL0 when EL2 is enabled and
HCR_EL2.TGE is 1, the current level from EL2 and EL3. -/
def State.undefinedTarget (s : State) : EL :=
  match s.pstate.el with
  | .el0 => if s.el2Enabled && s.hcrEl2.tge then .el2 else .el1
  | .el1 => .el1
  | .el2 => .el2
  | .el3 => .el3

/-- The number of draw `k` of the current instruction. -/
def State.draw (s : State) (k : Nat) : Nat := s.freeCount + k

/-- The draws of one instruction are spent: the next instruction draws anew. -/
def State.spendDraws (s : State) : State := { s with freeCount := s.freeCount + Config.drawSlots }

end Sys2Proof.Machine
end

