-- ==== Sys2Proof/Machine/Flags.lean ====
section
/-! DEFINITION. PSTATE as the instructions and exception entry move it (spec/10_state.md R28).  No accessor reads or
writes a condition flag and the sources never mention N, Z, C, V, so there is no flag computation.  The places of
the fields in SPSR are the family's (PRESUMED, log entry 11): the spec leaves the saved form to the surrounding PE
model (R521). -/

namespace Sys2Proof.Machine

/-- The bits of SPSR that the modelled PSTATE fields occupy: M[4:0], BTYPE, SSBS, ALLINT, PAN. -/
def spsrModelled : Dword := 0x0000000000403C1F

/-- PSTATE in SPSR form, with the bits that this spec gives no PSTATE field taken from `rest`. -/
def spsrOfPState (p : PState) (rest : Dword) : Dword :=
  let put := fun (b : Bool) (n : Nat) => if b then fieldMask n 1 else (0 : Dword)
  mergeBits spsrModelled rest
    (put p.sp 0 ||| (p.el.code.setWidth 64 <<< 2) ||| (p.btype.setWidth 64 <<< 10) ||| put p.ssbs 12 |||
      put p.allint 13 ||| put p.pan 22)

/-- The PSTATE fields of a saved value. -/
def pstateOfSpsr (v : Dword) : PState where
  el := EL.ofCode (v.extractLsb' 2 2)
  sp := bitAt v 0
  allint := bitAt v 13
  pan := bitAt v 22
  ssbs := bitAt v 12
  btype := v.extractLsb' 10 2

end Sys2Proof.Machine
end

