-- ==== Sys2Proof/Machine/Hazards.lean ====
section
/-! DEFINITION. When a write takes effect (spec/70_reset_and_hazards.md R560 to R563; spec/20_memory.md R72): the
order of the direct accesses to an owned register, and the values of it that may be in force. -/

namespace Sys2Proof.Machine

/-- One of `cur` and `alts`, by the number `k`; when they all agree there is nothing to choose. -/
def chooseAmong {α : Type} [DecidableEq α] (cur : α) (alts : List α) (k : Nat) : α :=
  if alts.all (fun a => decide (a = cur)) then cur else (cur :: alts).getD (k % (alts.length + 1)) cur

/-- `v` added to a list of earlier values. -/
def remember (v : Dword) (l : List Dword) : List Dword := if l.contains v then l else v :: l

/-- All of `vs` added to a list of earlier values. -/
def rememberAll (vs l : List Dword) : List Dword := vs.foldr remember l

/-! ## The order of direct accesses (R190, R560)

The accesses under the two names of a pair, without explicit synchronization between them, take place in some order in
which those under one name are in program order.  A register keeps that order in `tail`; an access under a name gets, by
a draw, any place after the accesses under its own name at which every read before it in program order still returned
what it did. -/

/-- The name of an access in flight. -/
def NamedAccess.name : NamedAccess → AccessName
  | .wrote n _ _ => n
  | .read n _ => n

/-- The value after an access to a register that holds `v` (R195 for a write). -/
def NamedAccess.apply (v : Dword) : NamedAccess → Dword
  | .wrote _ value mask => maskedWrite value v mask
  | .read _ _ => v

/-- The value after a run of accesses to a register that holds `base`. -/
def replay (base : Dword) (tail : List NamedAccess) : Dword := tail.foldl NamedAccess.apply base

/-- The values a register has before each access of a run. -/
def passedValues (base : Dword) : List NamedAccess → List Dword
  | [] => []
  | e :: l => base :: passedValues (e.apply base) l

/-- Every read of a run returned the value the register has there. -/
def consistent (base : Dword) : List NamedAccess → Bool
  | [] => true
  | .read _ seen :: l => seen == base && consistent base l
  | .wrote n value mask :: l => consistent (NamedAccess.apply base (.wrote n value mask)) l

/-- How much of a run the accesses under a name reach into: the place just after the last of them. -/
def ownEnd (name : AccessName) : List NamedAccess → Nat
  | [] => 0
  | e :: l => if ownEnd name l = 0 && e.name != name then 0 else ownEnd name l + 1

/-- A run with an access put at a place. -/
def placeAt (k : Nat) (e : NamedAccess) (tail : List NamedAccess) : List NamedAccess := tail.take k ++ e :: tail.drop k

/-- The stored value of a register, with every access done. -/
def CtlReg.val (r : CtlReg) : Dword := replay r.base r.tail

/-- An access that is ordered with all others: no hazard exists where it is made, or its name has no part in one. -/
def inOrder (hazard : Bool) (name : AccessName) : Bool := !hazard || name == .unpaired

/-- The places an access `e` may take: after those under its own name, and where no earlier read is contradicted. -/
def CtlReg.places (r : CtlReg) (e : NamedAccess) : List Nat :=
  (List.range (r.tail.length + 1)).filter fun k =>
    decide (ownEnd e.name r.tail ≤ k) && consistent r.base (placeAt k e r.tail)

/-- One of the places, by draw `n`; after every other access where there is no choice. -/
def drawPlace (places : List Nat) (last n : Nat) : Nat :=
  match places with
  | [] => last
  | [k] => k
  | k :: l => (k :: l).getD (Config.freeChoice n % (l.length + 1)) last

/-- Where a read under `name` takes place. -/
def CtlReg.readPlace (r : CtlReg) (name : AccessName) (n : Nat) : Nat :=
  drawPlace ((List.range (r.tail.length + 1)).filter fun k => decide (ownEnd name r.tail ≤ k)) r.tail.length n

/-- The value a direct read returns (R560, R561). -/
def CtlReg.directRead (r : CtlReg) (hazard : Bool) (name : AccessName) (n : Nat) : Dword :=
  if inOrder hazard name then r.val else replay r.base (r.tail.take (r.readPlace name n))

/-- The register after that read: later accesses are ordered after one that is in order, and one under a name of a
pair takes its place among those in flight (before them all it constrains nothing and is not kept). -/
def CtlReg.afterRead (r : CtlReg) (hazard : Bool) (name : AccessName) (n : Nat) : CtlReg :=
  if inOrder hazard name then { r with base := r.val, tail := [] }
  else
    match r.readPlace name n with
    | 0 => r
    | k + 1 => { r with tail := placeAt (k + 1) (.read name (replay r.base (r.tail.take (k + 1)))) r.tail }

/-- The part of a direct write that concerns the order: `value` is written and the bits of `mask` are kept. -/
def CtlReg.orderWrite (r : CtlReg) (hazard : Bool) (name : AccessName) (value mask : Dword) (n : Nat) : CtlReg :=
  if inOrder hazard name then { r with base := maskedWrite value r.val mask, tail := [] }
  else
    { r with tail :=
        placeAt (drawPlace (r.places (.wrote name value mask)) r.tail.length n) (.wrote name value mask) r.tail }

/-- A direct write.  `cacheable` says that the register has fields a TLB may cache (R72), `hazard` that both names of
its pair reach it here (R560).  Each value that it has had, or may have had, joins the earlier ones (R561). -/
def CtlReg.directWrite (r : CtlReg) (cacheable hazard : Bool) (name : AccessName) (value mask : Dword) (n : Nat) :
    CtlReg :=
  let w := r.orderWrite hazard name value mask n
  let earlier := r.val :: passedValues w.base w.tail
  { w with
    unsynced := rememberAll earlier r.unsynced
    stale := if cacheable then rememberAll earlier r.stale else r.stale }

/-! ## What is in force (R72, R561, R563) -/

/-- A field of an owned register, for what may be in force of it: its place, and whether a TLB may keep an earlier
value of it, which can depend on that value (R72, R421). -/
structure ViewField where
  lo     : Nat
  width  : Nat
  cached : (held : Nat) → Bool

/-- The bits of the field. -/
def ViewField.mask (f : ViewField) : Dword := fieldMask f.lo f.width

/-- The earlier values whose field may act in place of the stored one: those not yet synchronized (R561), and those of
which a TLB may hold the field (R72, R563). -/
def CtlReg.olderFor (r : CtlReg) (f : ViewField) : List Dword :=
  r.unsynced ++ r.stale.filter fun v => f.cached (fieldAt v f.lo f.width)

/-- The bits of a field that are in force, by draw `n`. -/
def CtlReg.viewField (r : CtlReg) (f : ViewField) (n : Nat) : Dword :=
  chooseAmong (r.val &&& f.mask) ((r.olderFor f).map (· &&& f.mask)) (Config.freeFieldChoice n f.lo)

/-- The register as a rule sees it that reads it with draw `n`: each field is the stored one or an earlier one that
may still be in force, each drawn for itself. -/
def CtlReg.view (r : CtlReg) (fields : List ViewField) (n : Nat) : Dword :=
  if r.unsynced.isEmpty && r.stale.isEmpty then r.val
  else fields.foldl (fun v f => mergeBits f.mask v (r.viewField f n)) r.val

/-- A context synchronization event: every earlier write is in force (R561), and it is the "explicit synchronization"
of R560.  A TLB keeps what it holds (R563). -/
def CtlReg.synchronize (r : CtlReg) : CtlReg := { r with base := r.val, tail := [], unsynced := [] }

/-- A TLB invalidation: no earlier value is held any more (R72). -/
def CtlReg.invalidateTlb (r : CtlReg) : CtlReg := { r with stale := [] }

/-- The register holds one value for every purpose. -/
def CtlReg.quiet (r : CtlReg) : Bool := r.tail.isEmpty && r.unsynced.isEmpty && r.stale.isEmpty

/-- A context synchronization event on the whole PE. -/
def State.contextSync (s : State) : State :=
  { s with
    sctlrEl2 := s.sctlrEl2.synchronize
    hfgrtr2El2 := s.hfgrtr2El2.synchronize
    tcrEl1 := s.tcrEl1.synchronize
    tcr2El1 := s.tcr2El1.synchronize }

/-- A TLB invalidation of everything, supplied from outside the spec (R72, R80). -/
def State.tlbInvalidate (s : State) : State :=
  { s with
    sctlrEl2 := s.sctlrEl2.invalidateTlb
    hfgrtr2El2 := s.hfgrtr2El2.invalidateTlb
    tcrEl1 := s.tcrEl1.invalidateTlb
    tcr2El1 := s.tcr2El1.invalidateTlb }

/-- Instruction cache maintenance with a context synchronization event, supplied from outside the spec (R79, R80). -/
def State.instructionCacheInvalidate (s : State) : State := { s.contextSync with staleFetch := [] }

/-! ## The draws of one instruction -/

/-- Draw of the fine-grained trap bit an ALIAS read consults. -/
def slotFgt2 : Nat := 0
/-- Draw of the place of a direct read. -/
def slotRead : Nat := 1
/-- Draw of the byte order of an NVMem access. -/
def slotNvMem : Nat := 2
/-- Draw of the place of a direct write. -/
def slotWrite : Nat := 3
/-- Draw of SCTLR_EL2.TIDCP for an access to IMPLEMENTATION DEFINED registers. -/
def slotTidcp : Nat := 4
/-- First of the draws of exception entry. -/
def slotEntry : Nat := 8
/-- First of the draws of exception return. -/
def slotReturn : Nat := 40
/-- First of the four draws of an instruction fetch. -/
def slotFetch : Nat := 56

end Sys2Proof.Machine
end

