-- ==== Sys2Proof/Machine/Hfgrtr2El2.lean ====
section
/-! DEFINITION. The read traps of HFGRTR2_EL2 (spec/43 R210 to R228). -/

namespace Sys2Proof.Machine

/-- The targets of the 15 fields, from bit 14 down (R214 to R228). -/
inductive Fgt2Target where
  | actlralias | actlrmask | tcr2alias | tcralias | sctlr2alias | sctlralias | cpacralias
  | tcr2mask | tcrmask | sctlr2mask | sctlrmask | cpacrmask | rcwsmask | erxgsr | pfar
  deriving DecidableEq, Repr

/-- The bit of the field (R211). -/
def Fgt2Target.pos : Fgt2Target → Nat
  | .actlralias => 14
  | .actlrmask => 13
  | .tcr2alias => 12
  | .tcralias => 11
  | .sctlr2alias => 10
  | .sctlralias => 9
  | .cpacralias => 8
  | .tcr2mask => 7
  | .tcrmask => 6
  | .sctlr2mask => 5
  | .sctlrmask => 4
  | .cpacrmask => 3
  | .rcwsmask => 2
  | .erxgsr => 1
  | .pfar => 0

/-- `Eff(field)` of R212 for the value `v` in force: treated as zero when EL3 is implemented and SCR_EL3.FGTEn2 is
0. -/
def effFgt2 (s : State) (v : Dword) (t : Fgt2Target) : Bool :=
  if s.cfg.haveEL3 && !s.scrEl3.fgten2 then false else bitAt v t.pos

/-- R227: nERXGSR_EL1 may be RES0 although FEAT_RASv2 is implemented only where ERRSELR_EL1 and the ERX* registers are
UNDEFINED or RAZ/WI and ERRIDR_EL1.NUM is zero. -/
def State.erxgsrRes0Permitted (s : State) : Bool :=
  !s.cfg.nerxgsrRes0 || (s.cfg.cross.erxAbsent && s.controlled.erridrEl1Num == 0)

/-- `TrapFGT2(field)` (R212): an EL1 read of the target is trapped to EL2.  A bit that R227 lets be RES0 with
FEAT_RASv2 reads as 0 and traps like any other 0: the rule says that no source says so (DEDUCED, log entry 60). -/
def trapFgt2 (s : State) (v : Dword) (t : Fgt2Target) : Bool :=
  s.pstate.el == .el1 && s.el2Enabled && s.has .FGT2 &&
    ((s.cfg.haveEL3 && !s.scrEl3.fgten2) || !bitAt v t.pos)

/-- How a target is read: MRS, or MRRS for RCWSMASK_EL1 (R226). -/
inductive Fgt2Read where
  | mrs | mrrs
  deriving DecidableEq, Repr

/-- The code of the trap, when the read is one that the field traps (R212, R226).  `higherPriority` says that the read
generates a higher priority exception: the trap then loses (R212, R508). -/
def fgt2TrapCode (s : State) (v : Dword) (t : Fgt2Target) (r : Fgt2Read) (higherPriority : Bool) :
    Option (BitVec 6) :=
  if trapFgt2 s v t && !higherPriority then
    match r with
    | .mrs => some 0x18
    | .mrrs => if t == .rcwsmask then some 0x14 else none
  else none

/-- The fields of HFGRTR2_EL2 as they may be in force: no field is cached in a TLB (R72). -/
def hfgrtr2ViewFields : List ViewField := (List.range 15).map fun n => ⟨n, 1, fun _ => false⟩

/-- HFGRTR2_EL2 as a rule sees it with draw `k` of the current instruction (R561). -/
def State.hfgrtr2View (s : State) (k : Nat) : Dword := s.hfgrtr2El2.view hfgrtr2ViewFields (s.draw k)

/-- The trap that a read of an ALIAS name at EL1 consults, with the value of HFGRTR2_EL2 in force. -/
def State.aliasReadTrapped (s : State) (t : Fgt2Target) : Bool := trapFgt2 s (s.hfgrtr2View slotFgt2) t

end Sys2Proof.Machine
end

