-- ==== Sys2Proof/Machine/Operands.lean ====
section
/-! DEFINITION. The operand of an accessor: `<Xt>`, a 64-bit general register or the zero register (spec/30 R94,
D4). There is no immediate, no shift and no addressing mode.  The stack pointer stands here for the alignment check
of the loads and stores that use it. -/

namespace Sys2Proof.Machine

/-- `x[t]`: X0 to X30; register number 31 reads as 0 (D4). -/
def State.readX (s : State) (t : Nat) : Dword := if h : t < 31 then s.x[t] else 0

/-- `x[t] <- v`: a write to register number 31 is discarded (D4). -/
def State.writeX (s : State) (t : Nat) (v : Dword) : State :=
  if h : t < 31 then { s with x := s.x.set t v } else s

/-- The stack pointer in use (R29): the bank of the current level, or SP_EL0 when `PSTATE.SP` is 0 or the level is
EL0. The rule implies the banks and the selection and does not define them (DEDUCED, log entry 51). -/
def State.sp (s : State) : Dword :=
  if !s.pstate.sp then s.spEl0
  else
    match s.pstate.el with
    | .el0 => s.spEl0
    | .el1 => s.spEl1
    | .el2 => s.spEl2
    | .el3 => s.spEl3

/-- An instruction that completes goes on at `pc + 4` (D5). -/
def State.advancePc (s : State) : State := { s with pc := s.pc + 4 }

end Sys2Proof.Machine
end

