-- ==== Sys2Proof/Machine/SctlrEl2.lean ====
section
/-! DEFINITION. The fields of SCTLR_EL2 (spec/40 R120 to R143, spec/41 R150 to R181): how each acts for a value `v`
of the register that is in force.  Traps of EL0 instructions are in El0Controls.lean; this file holds the Effective
values and what concerns EL2 and exception entry and return.  With EL2 not enabled no field has an effect (R21(b)):
an enable is then off, and a function that would give the PE a property answers `none`. -/

namespace Sys2Proof.Machine

/-- The value a field acts with (D3): the stored bits while it is a field, the reserved constant otherwise (R22). -/
def sctlrValue (s : State) (v : Dword) (f : SctlrField) : Nat :=
  match sctlrStatus s.cfg s.host2 s.host0 f with
  | .field => fieldAt v f.lo f.width
  | .res0 => 0
  | .res1 => 2 ^ f.width - 1

/-- A one-bit field acts as 1. -/
def sctlrBit (s : State) (v : Dword) (f : SctlrField) : Bool := decide (sctlrValue s v f = 1)

/-- The bit is a field in the current context. -/
def sctlrPresent (s : State) (f : SctlrField) : Bool := sctlrStatus s.cfg s.host2 s.host0 f == .field

/-- The fields a TLB may cache (R72): EPAN, CMOW, LSMAOE, nTLSMD, EE, WXN; EE only when it is a field (R156). -/
def sctlrCacheable (c : Config) : SctlrField → Bool
  | .epan => true
  | .cmow => true
  | .lsmaoe => true
  | .nTLSMD => true
  | .ee => c.has .MixedEnd
  | .wxn => true
  | _ => false

/-- "Effective value of HCR_EL2.{E2H, TGE} is {1, 1}", taken as `ELIsInHost(EL0)`: it is not under an EL2 that is using
AArch32 (log entry 63). -/
def State.e2hTge (s : State) : Bool := s.host0

/-- The condition under which a host2 field that is IGNORED when TGE is 0 acts (spec/40 conventions, R21(b)). -/
def State.hostTge (s : State) : Bool := s.host2 && s.hcrEl2.tge

/-- The fields of SCTLR_EL2 as they may be in force. -/
def sctlrViewFields (c : Config) : List ViewField :=
  sctlrFields.map fun f => ⟨f.lo, f.width, fun _ => sctlrCacheable c f⟩

/-- SCTLR_EL2 as a rule sees it with draw `k` of the current instruction (R72, R561, R563). -/
def State.sctlrView (s : State) (k : Nat) : Dword := s.sctlrEl2.view (sctlrViewFields s.cfg) (s.draw k)

/-! ## Effective values -/

/-- R134: the Effective value of ATA is 0 when SCR_EL3.ATA is 0; without EL3 the condition is absent (D9). -/
def effAta (s : State) (v : Dword) : Bool := (!s.cfg.haveEL3 || s.scrEl3.ata) && sctlrBit s v .ata

/-- R135: ATA0, likewise. -/
def effAta0 (s : State) (v : Dword) : Bool := (!s.cfg.haveEL3 || s.scrEl3.ata) && sctlrBit s v .ata0

/-- R141: the Effective value of EnFPM is 1 when EL2 is not implemented or not enabled. -/
def effEnFpm (s : State) (v : Dword) : Bool := if !s.el2Enabled then true else sctlrBit s v .enFPM

/-- R142: the Effective value of MSCEn is 1 when {E2H, TGE} is not {1, 1}. -/
def effMscen (s : State) (v : Dword) : Bool :=
  if s.has .MOPS && !s.e2hTge then true else sctlrBit s v .mscEn

/-- R160: the Effective value of IESB; in Debug state it is a draw. -/
def effIesb (s : State) (v : Dword) (n : Nat) : Bool :=
  if s.dbgState.halted then Config.freeBit n
  else if s.has .DoubleFault2 && s.sctlr2El2Nmea then true
  else sctlrBit s v .iesb

/-- R162: WXN acts only with M set, and is RES0 when TCR2_EL2.PIE is 1. -/
def effWxn (s : State) (v : Dword) : Bool :=
  if !sctlrBit s v .m || s.tcr2El2Pie then false else sctlrBit s v .wxn

/-! ## Tag checking (R124, R125, R134 to R137) -/

/-- What a Tag Check Fault does. -/
inductive TagFaultEffect where
  | none | synchronous | asynchronous | asymmetric
  deriving DecidableEq, Repr

/-- The value table of R136 and R137; 0b11 is defined with FEAT_MTE_ASYM_FAULT and reserved without FEAT_MTE3, and a
reserved value acts as a defined one (C5, D10).  N17 counts 0b10 without the asynchronous features as reserved too;
the table gives 0b10 no condition, and the model accumulates on every configuration, also without FEAT_MTE_ASYNC
(DESIGN CHOICE, log entry 65). -/
def tagFaultEffect (c : Config) (value reservedAs : Nat) : TagFaultEffect :=
  let table := fun (n : Nat) =>
    if n = 0 then TagFaultEffect.none else if n = 1 then .synchronous else if n = 2 then .asynchronous
    else if c.has .MTE_ASYM_FAULT && c.has .MTE3 then .asymmetric else .none
  if value = 3 && !(c.has .MTE_ASYM_FAULT && c.has .MTE3) then table reservedAs else table value

/-- R136: Tag Check Faults of loads and stores in EL2. -/
def tcfEl2 (s : State) (v : Dword) : Option TagFaultEffect :=
  if s.el2Enabled then some (tagFaultEffect s.cfg (sctlrValue s v .tcf) s.cfg.reservedAs.tcf.toNat) else none

/-- R137: Tag Check Faults of loads and stores in EL0 under a host; `none` of this control otherwise. -/
def tcfEl0 (s : State) (v : Dword) : Option TagFaultEffect :=
  if s.hostTge then some (tagFaultEffect s.cfg (sctlrValue s v .tcf0) s.cfg.reservedAs.tcf0.toNat) else none

/-- Use of Memory tagging at EL2 (R134). -/
def memoryTaggingEl2 (s : State) (v : Dword) : Option Bool := if s.el2Enabled then some (effAta s v) else none

/-- Use of Memory tagging at EL0 as ATA0 controls it (R135); `none` when this control does not act. -/
def memoryTaggingEl0 (s : State) (v : Dword) : Option Bool :=
  if s.hostTge && sctlrPresent s .ata0 then some (effAta0 s v) else none

/-- R124: explicit memory reads of EL2 instructions are Tag Unchecked. -/
def readsUncheckedEl2 (s : State) (v : Dword) : Bool := s.el2Enabled && sctlrBit s v .tcso

/-- R125: explicit memory reads of EL0 instructions are Tag Unchecked by this control. -/
def readsUncheckedEl0 (s : State) (v : Dword) : Bool := s.hostTge && sctlrBit s v .tcso0

/-! ## Pointer authentication and branch types (R139, R140, R150, R151, R154, R168) -/

/-- The four keys and their enables. -/
inductive PauthKey where
  | ia | ib | da | db
  deriving DecidableEq, Repr

/-- The enable of a key. -/
def PauthKey.enable : PauthKey → SctlrField
  | .ia => .enIA
  | .ib => .enIB
  | .da => .enDA
  | .db => .enDB

/-- Whether pointer authentication with a key is enabled at EL2, or at EL0 in the EL2&0 regime; `none` at EL1, EL3 and
EL0 elsewhere, where registers that no source describes decide. -/
def pauthEnabled (s : State) (v : Dword) (k : PauthKey) : Option Bool :=
  if (s.pstate.el == .el2 && s.el2Enabled) || (s.pstate.el == .el0 && s.host0) then some (sctlrBit s v k.enable)
  else none

/-- R150: a disabled AddPAC or Auth function returns its argument; the algorithms are outside the spec, so the enabled
function is the parameter `auth`.  Undecided where SCTLR_EL2 does not decide. -/
def pauthApply (s : State) (v : Dword) (k : PauthKey) (auth : Dword) (pointer : Dword) : Option Dword :=
  (pauthEnabled s v k).map fun enabled => if enabled then auth else pointer

/-- The BTYPE values an implicit BTI accepts, by name (R139; which values those are is not in the sources). -/
inductive BtiCompatibility where
  | jc | c
  deriving DecidableEq, Repr

/-- The instructions with an implicit BTI behaviour that R139 and R140 list. -/
inductive ImplicitBtiInstr where
  | paciasp | pacibsp | paciasppc | pacibsppc
  deriving DecidableEq, Repr

/-- The last two are listed with FEAT_PAuth_LR only. -/
def ImplicitBtiInstr.listed (c : Config) : ImplicitBtiInstr → Bool
  | .paciasp => true
  | .pacibsp => true
  | .paciasppc => c.has .PAuth_LR
  | .pacibsppc => c.has .PAuth_LR

/-- R139 at EL2, R140 at EL0 under a host: the Branch Type compatibility of the implicit BTI of a listed
instruction. -/
def implicitBti (s : State) (v : Dword) (i : ImplicitBtiInstr) : Option BtiCompatibility :=
  let compat := fun (f : SctlrField) => if sctlrBit s v f then BtiCompatibility.c else .jc
  if !(s.has .BTI && i.listed s.cfg) then none
  else if s.pstate.el == .el2 && s.el2Enabled then some (compat .bt)
  else if s.pstate.el == .el0 && s.hostTge then some (compat .bt0)
  else none

/-! ## Byte order (R156, R157, R62 to R64) -/

/-- R156: the byte order that EE gives the accesses it governs: big-endian. -/
def eeBigEndian (s : State) (v : Dword) : Bool := sctlrBit s v .ee

/-- R62: data accesses at EL2 are big-endian. -/
def bigEndianEl2 (s : State) (v : Dword) : Option Bool := if s.el2Enabled then some (eeBigEndian s v) else none

/-- Explicit data accesses at EL0 are big-endian (R157, its alternatives in order).  With FEAT_MixedEndEL0 the bit
decides in a host with TGE 1, and SCTLR_EL1.E0E, which no source describes, elsewhere (R63: `none`); without it
FEAT_BigEndEL0 fixes the order in every context. -/
def bigEndianEl0 (s : State) (v : Dword) : Option Bool :=
  if s.has .MixedEndEL0 then (if s.hostTge then some (sctlrBit s v .e0e) else none)
  else some (s.has .BigEndEL0)

/-- The byte order of an unprivileged access executed at EL2 is that of EE (R63). -/
def bigEndianUnprivilegedAtEl2 (s : State) (v : Dword) : Option Bool := bigEndianEl2 s v

/-- The translation regimes the rules name. -/
inductive WalkRegime where
  | el2 | el20 | el10 | el3
  deriving DecidableEq, Repr

/-- The stage of a translation table walk. -/
inductive WalkStage where
  | stage1 | stage2
  deriving DecidableEq, Repr

/-- The walks that EE governs (R64): stage 1 of the EL2 and EL2&0 regimes, and stage 2 of EL1&0. -/
def walkUnderEe : WalkRegime → WalkStage → Bool
  | .el2, .stage1 => true
  | .el20, .stage1 => true
  | .el10, .stage2 => true
  | _, _ => false

/-- R64: a translation table walk is big-endian; `none` for one that SCTLR_EL2 does not govern, stage 1 of EL1&0 among
them. -/
def walkBigEndian (s : State) (v : Dword) (r : WalkRegime) (stage : WalkStage) : Option Bool :=
  if s.el2Enabled && walkUnderEe r stage then some (eeBigEndian s v) else none

/-! ## Exception entry and return (R121, R133, R138, R158 to R160, R170)

Each requires EL2 to be enabled (R21(b)); without it entry and return synchronize and the rest is left alone. -/

/-- R158: an exception to EL2 sets PSTATE.PAN. -/
def entrySetsPan (s : State) (v : Dword) : Bool := s.hostTge && !sctlrBit s v .span

/-- R133: `PSTATE.SSBS` after an exception to EL2, from `old`. -/
def entrySsbs (s : State) (v : Dword) (old : Bool) : Bool :=
  if s.el2Enabled && s.has .SSBS then sctlrBit s v .dssbs else old

/-- R121, R512: `PSTATE.ALLINT` after an exception to EL2, from `old`; with NMI 0 it is left alone (D8). -/
def entryAllint (s : State) (v : Dword) (old : Bool) : Bool :=
  if s.el2Enabled && s.has .NMI && sctlrBit s v .nmi then !sctlrBit s v .spintmask else old

/-- R159: taking an exception to EL2 is a context synchronization event. -/
def entrySynchronizes (s : State) (v : Dword) : Bool := !s.el2Enabled || sctlrBit s v .eis

/-- R170: an exception return from EL2 is a context synchronization event. -/
def returnSynchronizes (s : State) (v : Dword) : Bool := !s.el2Enabled || sctlrBit s v .eos

/-- R138: pending asynchronous Tag Check Faults are synchronized on entry to EL2.  R138 opens with "When synchronous
exceptions are not being generated by Tag Check Faults", a clause that R512 leaves out: ITFSB alone decides, whatever
TCF and TCF0 select (DESIGN CHOICE, log entry 70). -/
def entrySyncsTagFaults (s : State) (v : Dword) : Bool := s.el2Enabled && sctlrBit s v .itfsb

/-! ## Interrupts (R121, R122, R515) -/

/-- R515: PSTATE.SP masks an IRQ or FIQ targeted to EL2, with or without Superpriority. -/
def maskedBySp (s : State) (v : Dword) : Bool :=
  s.el2Enabled && s.has .NMI && sctlrBit s v .nmi && sctlrBit s v .spintmask && s.pstate.el == .el2 && s.pstate.sp

/-- What SCTLR_EL2.NMI enables (R122; the list is general knowledge, C2). -/
inductive NmiFeature where
  | allintMask | superpriority | spAsMask
  deriving DecidableEq, Repr

/-- The features that act: all three with NMI 1, none of them through this control with NMI 0; SP acts as a mask only
with SPINTMASK as well (R121). -/
def nmiEnables (s : State) (v : Dword) : NmiFeature → Bool
  | .allintMask => s.el2Enabled && s.has .NMI && sctlrBit s v .nmi
  | .superpriority => s.el2Enabled && s.has .NMI && sctlrBit s v .nmi
  | .spAsMask => s.el2Enabled && s.has .NMI && sctlrBit s v .nmi && sctlrBit s v .spintmask

/-- Where an implicit error synchronization event can be added (R160; the first two are general knowledge, C8). -/
inductive IesbPoint where
  | exceptionToEl2 | beforeExceptionReturn | afterDcps (target : EL) | beforeDrps
  deriving DecidableEq, Repr

/-- The point is one of EL2: an exception taken to EL2, an ERET or DRPS executed at EL2, a DCPSx taken to EL2; the
last two in Debug state (R160). -/
def IesbPoint.ofEl2 (s : State) : IesbPoint → Bool
  | .exceptionToEl2 => true
  | .beforeExceptionReturn => s.pstate.el == .el2
  | .afterDcps target => s.dbgState.halted && target == .el2
  | .beforeDrps => s.dbgState.halted && s.pstate.el == .el2

/-- R160: the event is added at the point, as SCTLR_EL2 stands before it. -/
def errorSyncAdded (s : State) (v : Dword) (n : Nat) (p : IesbPoint) : Bool :=
  s.el2Enabled && s.has .IESB && p.ofEl2 s && effIesb s v n

/-- The events R561 lists: entry to and return from each Exception level among them. -/
inductive SyncPoint where
  | isb | exceptionEntry (target : EL) | exceptionReturn (source : EL) | exitDebugState | dcps | drps
  deriving DecidableEq, Repr

/-- Which events are context synchronization events (R159, R170, R561): EIS and EOS qualify entry to and return from
EL2 only.  At EL1 and EL3 a control of the same kind would be in a register that no source describes; there every
entry and return synchronizes, as R561 says (log entry 21). -/
def isContextSync (s : State) (v : Dword) : SyncPoint → Bool
  | .exceptionEntry target => target != .el2 || entrySynchronizes s v
  | .exceptionReturn source => source != .el2 || returnSynchronizes s v
  | .dcps => true
  | .drps => true
  | .exitDebugState => true
  | .isb => true

/-! ## Cacheability and stage 1 of EL2 (R169, R179, R181, R162, R71, R73) -/

/-- The cacheability that M, C and I give an access (R71). -/
inductive Cacheability where
  | nonCacheable | unaffected
  deriving DecidableEq, Repr

/-- R179: data accesses to Normal memory from EL2, and from EL0 under {E2H, TGE} = {1, 1}, and walks of that regime.
-/
def dataCacheability (s : State) (v : Dword) (accessor : EL) : Cacheability :=
  if s.el2Enabled && (accessor == .el2 || (accessor == .el0 && s.e2hTge)) && !sctlrBit s v .c then .nonCacheable
  else .unaffected

/-- R179: Normal memory accesses to the tables of the EL2 regime, or of EL2&0 under {E2H, TGE} = {1, 1}. -/
def walkCacheability (s : State) (v : Dword) (r : WalkRegime) : Cacheability :=
  let governed := if s.e2hTge then r == .el20 else r == .el2
  if s.el2Enabled && governed && !sctlrBit s v .c then .nonCacheable else .unaffected

/-- R169: instruction accesses to Normal memory. -/
def instructionCacheability (s : State) (v : Dword) (accessor : EL) : Cacheability :=
  if s.el2Enabled && (accessor == .el2 || (accessor == .el0 && s.e2hTge)) && !sctlrBit s v .i then .nonCacheable
  else .unaffected

/-- The attributes of instruction accesses with stage 1 off (R169). -/
inductive StageOffAttributes where
  | outerShareableNonCacheable | outerShareableWriteThrough
  deriving DecidableEq, Repr

/-- R181: stage 1 translation of the EL2 (or EL2&0) regime is enabled. -/
def stage1EnabledEl2 (s : State) (v : Dword) : Bool := s.el2Enabled && sctlrBit s v .m

/-- R169: with M 0, the attributes of instruction accesses of the regime. -/
def stageOffInstructionAttributes (s : State) (v : Dword) : Option StageOffAttributes :=
  if !s.el2Enabled || sctlrBit s v .m then none
  else if sctlrBit s v .i then some .outerShareableWriteThrough else some .outerShareableNonCacheable

/-- The regime M and the EL0 controls of SCTLR_EL2 govern, on {E2H, TGE} as R181 prints it (C10). -/
def governedRegime (s : State) : WalkRegime := if s.e2hTge then .el20 else .el2

/-- R162: a region writeable at `el` is execute-never at `el`, for EL2 in either regime and for EL0 in EL2&0, where
it is with {E2H, TGE} = {1, 1} (R500(b)). -/
def writeImpliesXn (s : State) (v : Dword) (el : EL) (writeableAtEl : Bool) : Bool :=
  s.el2Enabled && effWxn s v && writeableAtEl && (el == .el2 || (el == .el0 && s.host0))

end Sys2Proof.Machine
end

