-- ==== Sys2Proof/Machine/El0Controls.lean ====
section
/-! DEFINITION. What SCTLR_EL2 does to instructions executed at EL0, and the faults it names (spec/60 R505, R506,
R510, R516; the field rules of spec/40 and spec/41), as functions of an event and of a value `v` of SCTLR_EL2 in
force.  The instructions themselves are outside the spec (R3): an event stands for one of them. -/

namespace Sys2Proof.Machine

/-! ## Encodings reserved for IMPLEMENTATION DEFINED functionality (R120, R97) -/

/-- The four AArch64 sets of R120, and the AArch32 MCR and MRC accesses. -/
inductive ImplDefAccess where
  /-- (i) SYS or SYSL. -/
  | sys (crn : Nat)
  /-- (ii) SYSP. -/
  | sysp (crn : Nat)
  /-- (iii) MRS or MSR of `S3_<op1>_<Cn>_<Cm>_<op2>`. -/
  | mrsMsr (crn : Nat)
  /-- (iv) MRRS or MSRR of such a name. -/
  | mrrsMsrr (crn : Nat)
  /-- AArch32 MCR or MRC. -/
  | mcrMrc (coproc crn crm : Nat)
  deriving DecidableEq, Repr

/-- `a` is in the sets of R120; that sets (iii) and (iv) are those with CRn 11 or 15 is general knowledge (R97). -/
def ImplDefAccess.reserved : ImplDefAccess → Bool
  | .sys n => n == 11 || n == 15
  | .sysp n => n == 11 || n == 15
  | .mrsMsr n => n == 11 || n == 15
  | .mrrsMsrr n => n == 11 || n == 15
  | .mcrMrc p n m =>
    p == 15 &&
      ((n == 9 && [0, 1, 2, 5, 6, 7, 8].contains m) || (n == 10 && [0, 1, 4, 8].contains m) ||
       (n == 11 && [0, 1, 2, 3, 4, 5, 6, 7, 8, 15].contains m))

/-- The EC syndrome value of each set (R120, R504). -/
def ImplDefAccess.ec : ImplDefAccess → BitVec 6
  | .sys _ => 0x18
  | .sysp _ => 0x14
  | .mrsMsr _ => 0x18
  | .mrrsMsrr _ => 0x14
  | .mcrMrc _ _ _ => 0x03

/-- The conditions every EL0 control of SCTLR_EL2 shares: execution at EL0 under a host with TGE 1 (R505). -/
def State.hostEl0 (s : State) : Bool := s.pstate.el == .el0 && s.hostTge

/-- `Trap_TIDCP(access)` (R120). -/
def trapTidcp (s : State) (v : Dword) (a : ImplDefAccess) : Bool :=
  s.hostEl0 && sctlrBit s v .tidcp && a.reserved

/-! ## Events at EL0 -/

/-- The cache maintenance instructions of R155 and R143. -/
inductive CacheOp where
  | dcCvau | dcCivac | dcCvac | icIvau
  | dcCigvac | dcCigdvac | dcCgvac | dcCgdvac
  | dcCvap | dcCgvap | dcCgdvap | dcCvadp | dcCgvadp | dcCgdvadp
  | dcCivaoc | dcCigdvaoc | dcCvaoc | dcCgdvaoc
  deriving DecidableEq, Repr

/-- The feature conditions under which UCI names the instruction (R155). -/
def CacheOp.underUci (c : Config) : CacheOp → Bool
  | .dcCvau => true
  | .dcCivac => true
  | .dcCvac => true
  | .icIvau => true
  | .dcCigvac => c.has .MTE
  | .dcCigdvac => c.has .MTE
  | .dcCgvac => c.has .MTE
  | .dcCgdvac => c.has .MTE
  | .dcCvap => c.has .DPB
  | .dcCgvap => c.has .DPB && c.has .MTE
  | .dcCgdvap => c.has .DPB && c.has .MTE
  | .dcCvadp => c.has .DPB2
  | .dcCgvadp => c.has .DPB2 && c.has .MTE
  | .dcCgdvadp => c.has .DPB2 && c.has .MTE
  | .dcCivaoc => c.has .OCCMO
  | .dcCigdvaoc => c.has .OCCMO
  | .dcCvaoc => c.has .OCCMO
  | .dcCgdvaoc => c.has .OCCMO

/-- A DC that cleans and invalidates by VA, or an IC by VA (R143).  No source says which of the named DC
instructions clean and invalidate (R80): that they are those whose names begin with CI, and that IC IVAU is the IC
by VA, is general knowledge (PRESUMED, log entry 59). -/
def CacheOp.underCmow : CacheOp → Bool
  | .dcCivac => true
  | .dcCigvac => true
  | .dcCigdvac => true
  | .dcCivaoc => true
  | .dcCigdvaoc => true
  | .icIvau => true
  | _ => false

/-- The instructions of DZE (R167). -/
inductive ZeroOp where
  | dcZva | dcGva | dcGzva
  deriving DecidableEq, Repr

/-- The prediction restriction instructions of EnRCTX, in either instruction set (R171). -/
inductive RctxOp where
  | cfp | dvp | cpp | cosp
  deriving DecidableEq, Repr

/-- An instruction executed at EL0 that a field of SCTLR_EL2 gates by a trap (R505) or by making it UNDEFINED
(R506). -/
inductive El0Event where
  | implementationDefined (a : ImplDefAccess)
  /-- MRS or MSR of TPIDR2_EL0 (R123). -/
  | tpidr2Access
  /-- LD64B or ST64B (R127). -/
  | ld64bSt64b
  /-- ST64BV0 (R128). -/
  | st64bv0
  /-- ST64BV (R129). -/
  | st64bv
  /-- MRS or MSR of FPMR (R141); whether the access generates a higher priority exception. -/
  | fpmrDirect (higherPriority : Bool)
  /-- An FP8 data-processing instruction that accesses FPMR indirectly (R141). -/
  | fp8Indirect
  | cacheMaintenance (op : CacheOp)
  /-- Access to SCXTNUM_EL0 (R161).  TSCXT that is RES1, without FEAT_CSV2_2 and FEAT_CSV2_1p2, disables nothing
  (DESIGN CHOICE, log entry 72). -/
  | scxtnumAccess
  /-- Access to CTR_EL0 (R166). -/
  | ctrAccess
  | zeroBlock (op : ZeroOp)
  | rctx (op : RctxOp)
  /-- A Memory Copy or Memory Set instruction (R142). -/
  | memoryCopySet
  /-- AArch32 SETEND (R173). -/
  | setend
  /-- AArch32 IT (R174): its first halfword. -/
  | itBlock (hw1 : BitVec 16)
  /-- The instruction after an IT, in T32 (R174): its first halfword. -/
  | afterIt (hw1 : BitVec 16)
  /-- AArch32 CP15DMB, CP15DSB or CP15ISB (R176). -/
  | cp15Barrier
  deriving DecidableEq, Repr

/-- What a control makes of an instruction. -/
inductive ControlOutcome where
  | proceed
  | trapToEl2 (ec : BitVec 6) (iss : Option (BitVec 25))
  | undefined
  deriving DecidableEq, Repr

/-- R174 (b): the T32 first halfwords that ITD disables after an IT. -/
def itdDisables (hw1 : BitVec 16) : Bool :=
  (hw1 &&& 0xC000 == 0xC000) || (hw1 &&& 0xF000 == 0xB000) || (hw1 &&& 0xF800 == 0xA000) ||
  (hw1 &&& 0xF800 == 0x4800) || (hw1 &&& 0xF478 == 0x4478) || (hw1 &&& 0xFC87 == 0x4487)

/-- R505 and R506: the outcome of an EL0 event, with value `v` of SCTLR_EL2 in force.  `proceed` says that no control
of the register stops the instruction; a trap that loses to a higher priority exception (R141, R508) is not taken.
TSCXT stops an access to SCXTNUM_EL0 as a field only, not while it is RES1 (R161; DESIGN CHOICE, log entry 72). -/
def el0Control (s : State) (v : Dword) (e : El0Event) : ControlOutcome :=
  let trapIf := fun (c : Bool) (ec : BitVec 6) (iss : Option (BitVec 25)) =>
    if s.hostEl0 && c then ControlOutcome.trapToEl2 ec iss else .proceed
  let undefIf := fun (c : Bool) => if s.hostEl0 && c then ControlOutcome.undefined else .proceed
  match e with
  | .implementationDefined a => if trapTidcp s v a then .trapToEl2 a.ec none else .proceed
  | .tpidr2Access => trapIf (s.has .SME && !sctlrBit s v .enTP2) 0x18 none
  | .ld64bSt64b => trapIf (s.has .LS64 && !sctlrBit s v .enALS) 0x0A (some 2)
  | .st64bv0 => trapIf (s.has .LS64_ACCDATA && !sctlrBit s v .enAS0) 0x0A (some 1)
  | .st64bv => trapIf (s.has .LS64_V && !sctlrBit s v .enASR) 0x0A (some 0)
  | .fpmrDirect higherPriority => trapIf (s.has .FPMR && s.host0 && !effEnFpm s v && !higherPriority) 0x18 none
  | .fp8Indirect => undefIf (s.has .FPMR && s.host0 && !effEnFpm s v)
  | .cacheMaintenance op => trapIf (op.underUci s.cfg && !sctlrBit s v .uci) 0x18 none
  | .scxtnumAccess =>
    trapIf ((s.has .CSV2_2 || s.has .CSV2_1p2) && sctlrBit s v .tscxt) s.cfg.trapCodes.tscxt none
  | .ctrAccess => trapIf (!sctlrBit s v .uct) s.cfg.trapCodes.uct none
  | .zeroBlock op => trapIf ((op == .dcZva || s.has .MTE) && !sctlrBit s v .dze) s.cfg.trapCodes.dze none
  | .rctx op =>
    trapIf (s.has .SPECRES && (op != .cosp || s.has .SPECRES2) && !sctlrBit s v .enRCTX) s.cfg.trapCodes.enrctx none
  | .memoryCopySet =>
    if s.pstate.el == .el0 && s.el2Enabled && s.has .MOPS && !effMscen s v then .undefined else .proceed
  | .setend => undefIf (s.has .AA32EL0 && sctlrBit s v .sed)
  | .itBlock hw1 =>
    undefIf (s.has .AA32EL0 && s.cfg.itdImplemented && sctlrBit s v .itd && hw1.extractLsb' 0 4 != 8)
  | .afterIt hw1 => undefIf (s.has .AA32EL0 && s.cfg.itdImplemented && sctlrBit s v .itd && itdDisables hw1)
  | .cp15Barrier => undefIf (s.has .AA32EL0 && !sctlrBit s v .cp15ben)

/-! ## Reads that SCTLR_EL2 changes (R520) -/

/-- R161: the SCXTNUM_EL0 value is treated as 0 at EL0 when access is disabled; by a field only, as the trap (log
entry 72). -/
def scxtnumAtEl0 (s : State) (v : Dword) : Dword :=
  if s.hostEl0 && (s.has .CSV2_2 || s.has .CSV2_1p2) && sctlrBit s v .tscxt then 0 else s.controlled.scxtnumEl0

/-- R167: reading DCZID_EL0.DZP from EL0 returns 1 when DZE is 0. -/
def dczidDzpRead (s : State) (v : Dword) : Bool :=
  if s.hostEl0 && !sctlrBit s v .dze then true else s.controlled.dczidEl0Dzp

/-! ## WFE, WFET, WFI, WFIT (R163, R165, R516, R570) -/

/-- The four wait instructions. -/
inductive WaitInstr where
  | wfe | wfet | wfi | wfit
  deriving DecidableEq, Repr

/-- WFE and WFET are subject to nTWE and its delay, WFI and WFIT to nTWI (R163, R165). -/
def WaitInstr.isEvent : WaitInstr → Bool
  | .wfe => true
  | .wfet => true
  | .wfi => false
  | .wfit => false

/-- What a wait instruction does next. -/
inductive WaitOutcome where
  /-- It completes: with a Wakeup event, or at any time without one. -/
  | complete
  /-- The PE is in, or would enter, the low-power state. -/
  | waiting
  /-- Trap to EL2 with this code. -/
  | trapToEl2 (ec : BitVec 6)
  deriving DecidableEq, Repr

/-- The wait instruction exists (R317: WFET and WFIT with FEAT_WFxT). -/
def WaitInstr.isImplemented (c : Config) : WaitInstr → Bool
  | .wfe => true
  | .wfi => true
  | .wfet => c.has .WFxT
  | .wfit => c.has .WFxT

/-- The control traps the instruction at EL0, if it would enter the low-power state (R163, R165). -/
def waitTrapped (s : State) (v : Dword) (w : WaitInstr) : Bool :=
  s.hostEl0 && w.isImplemented s.cfg && !(if w.isEvent then sctlrBit s v .nTWE else sctlrBit s v .nTWI)

/-- The least number of cycles before a WFE* trap (R131, R132, R570); a WFI* trap has no delay (R165). -/
def trapDelay (s : State) (v : Dword) (w : WaitInstr) : Nat :=
  if !w.isEvent then 0
  else if sctlrBit s v .twedEn then 2 ^ (sctlrValue s v .twedel + 8)
  else if s.has .TWED then s.cfg.twedDefaultDelay else 0

/-- R516: the instruction may complete at any time (the draw `mayComplete`); in the low-power state it waits, and
when it is trapped the trap is taken no earlier than the delay.  `lowPower` says that it would enter that state.
The delay of a WFE* trap is a lower bound and no maximum is given (R132, R570): past it the draw `trapsLater` may
put the trap off, any number of times. -/
def waitOutcome (s : State) (v : Dword) (w : WaitInstr) (lowPower mayComplete trapsLater : Bool) : WaitOutcome :=
  if !lowPower || mayComplete then .complete
  else if waitTrapped s v w then
    if trapDelay s v w ≤ s.wfeCycles && !(w.isEvent && trapsLater) then
      .trapToEl2 (if w.isEvent then s.cfg.trapCodes.ntwe else s.cfg.trapCodes.ntwi)
    else .waiting
  else .waiting

/-- One cycle of waiting (R34(c), R570), or the end of the wait. -/
def State.waitCycle (s : State) (o : WaitOutcome) : State :=
  match o with
  | .waiting => { s with wfeCycles := s.wfeCycles + 1 }
  | .complete => { s with wfeCycles := 0 }
  | .trapToEl2 _ => { s with wfeCycles := 0 }

/-! ## Faults without a code (R510) -/

/-- R177, R178, R68: a load or store with the SP in use as its base address, not 16-byte aligned. -/
def spAlignmentFault (s : State) (v : Dword) : Option NamedFault :=
  let checked := (s.pstate.el == .el2 && s.el2Enabled && sctlrBit s v .sa) || (s.hostEl0 && sctlrBit s v .sa0)
  if checked && fieldAt s.sp 0 4 != 0 then some .spAlignment else none

/-- The accesses A and nAA check: at EL2, and at EL0 under {E2H, TGE} = {1, 1} (R175, R180). -/
def State.underEl2Checks (s : State) : Bool :=
  s.el2Enabled && (s.pstate.el == .el2 || (s.pstate.el == .el0 && s.e2hTge))

/-- R180, R66: element of `size` bytes at `a`.  "Alignment checks on some instructions are not disabled by this
control", and no source says which (N23): `none` says that A raises no fault, not that the access completes (DESIGN
CHOICE, log entry 69). -/
def alignmentFault (s : State) (v : Dword) (a : Dword) (size : Nat) : Option NamedFault :=
  if s.underEl2Checks && sctlrBit s v .a && a.toNat % size != 0 then some .alignmentDataAbort else none

/-- `Crosses16(a, n)` (R175, R67). -/
def crosses16 (a : Dword) (n : Nat) : Bool := decide ((a >>> 4) ≠ ((a + BitVec.ofNat 64 n - 1) >>> 4))

/-- The load-acquire and store-release instructions of R175. -/
inductive OrderedAccess where
  /-- LDAPR, LDAPRH, LDAPUR, LDAPURH, LDAPURSH, LDAPURSW, LDAR, LDARH, LDLAR, LDLARH, STLLR, STLLRH, STLR, STLRH,
  STLUR, STLURH. -/
  | base
  /-- With FEAT_LRCPC3: post-index LDAPR, pre-index STLR. -/
  | lrcpc3
  /-- With FEAT_LRCPC3: LDIAPP, STILP, each of a pair of registers. -/
  | lrcpc3Pair
  /-- With FEAT_LRCPC3 and Advanced SIMD and floating-point: LDAPUR, LDAP1, STLUR, STL1 (SIMD&FP). -/
  | lrcpc3Simd
  deriving DecidableEq, Repr

/-- The 16-byte rule applies to the instruction. -/
def OrderedAccess.listed (c : Config) : OrderedAccess → Bool
  | .base => true
  | .lrcpc3 => c.has .LRCPC3
  | .lrcpc3Pair => c.has .LRCPC3
  | .lrcpc3Simd => c.has .LRCPC3 && c.has .AdvSIMD && c.cross.floatingPoint

/-- The bytes the rule looks at, as runs of an address and a length, for an instruction with `n` bytes for each of its
registers, at `a`: LDIAPP and STILP are checked "for a single register", every other instruction as one access.  The
spec only names these two: that they have two registers, with the second `n` bytes at `a + n`, is the family's
(PRESUMED, log entry 57). -/
def OrderedAccess.checkedRuns (o : OrderedAccess) (a : Dword) (n : Nat) : List (Dword × Nat) :=
  match o with
  | .base => [(a, n)]
  | .lrcpc3 => [(a, n)]
  | .lrcpc3Simd => [(a, n)]
  | .lrcpc3Pair => [(a, n), (a + BitVec.ofNat 64 n, n)]

/-- R175: an access at `a` of `n` bytes for each register of a listed instruction.  `acquireToZr` marks a
load-acquire without acquire semantics because its destination is ZR: whether nAA acts as 1 is the draw `n'`. -/
def alignment16Fault (s : State) (v : Dword) (o : OrderedAccess) (a : Dword) (n : Nat) (acquireToZr : Bool)
    (draw : Nat) : Option NamedFault :=
  let naa := sctlrBit s v .nAA || (acquireToZr && Config.freeBit draw)
  if s.underEl2Checks && s.has .LSE2 && o.listed s.cfg && !naa &&
      (o.checkedRuns a n).any (fun r => crosses16 r.1 r.2) then some .alignment16Byte
  else none

/-- R153, R69: an A32 or T32 Load or Store Multiple at EL0 to memory marked Device-nGRE, -nGnRE or -nGnRnE. -/
def loadStoreMultipleFault (s : State) (v : Dword) (deviceNoGather : Bool) : Option NamedFault :=
  if s.hostEl0 && s.has .LSMAOC && !sctlrBit s v .nTLSMD && deviceNoGather then some .stage1Alignment else none

/-- R152: an interrupt may be taken, and the accesses need not be ordered, inside an A32 or T32 Load or Store
Multiple. -/
def loadStoreMultipleUnordered (s : State) (v : Dword) : Bool :=
  s.hostEl0 && s.has .LSMAOC && !sctlrBit s v .lsmaoe

/-- R126: a data access at EL2 with PSTATE.PAN set to a page with stage 1 EL0 data access permission (base PAN) or,
with EPAN, EL0 instruction access permission.  Not ignored when TGE is 0.  R126 gives host2 for the predicate of EPAN;
that base PAN too generates its fault at EL2 in a host only is the model's choice (DESIGN CHOICE, log entry 58).  N14
counts EPAN with WXN among the fields that are RES0 under TCR2_EL2.PIE; R126 and R22 give EPAN no such condition, and
the model takes none (DESIGN CHOICE, log entry 64). -/
def panFault (s : State) (v : Dword) (el0Data el0Instr : Bool) : Option NamedFault :=
  if s.pstate.el == .el2 && s.host2 && s.pstate.pan && (el0Data || (sctlrBit s v .epan && el0Instr)) then
    some .panPermission else none

/-- R143: cache maintenance at EL0 without stage 1 unprivileged write permission. -/
def cmowFault (s : State) (v : Dword) (op : CacheOp) (el0Write : Bool) : Option NamedFault :=
  if s.hostEl0 && sctlrBit s v .cmow && op.underCmow && !el0Write then some .stage1PermissionCmow else none

/-- R162: an instruction fetch at `s.pstate.el` from a region that is writeable there. -/
def wxnFault (s : State) (v : Dword) (writeable : Bool) : Option NamedFault :=
  if writeImpliesXn s v s.pstate.el writeable then some .executeNever else none

/-- R136, R137: what a failed tag check of a load (`isRead`) or store does at EL2 or, under a host, EL0. -/
def tagCheckFault (s : State) (v : Dword) (isRead : Bool) : Option NamedFault :=
  let effect := if s.pstate.el == .el2 then tcfEl2 s v else if s.pstate.el == .el0 then tcfEl0 s v else none
  match effect with
  | some .synchronous => some .tagCheckSynchronous
  | some .asynchronous => some .tagCheckAccumulated
  | some .asymmetric => some (if isRead then .tagCheckSynchronous else .tagCheckAccumulated)
  | _ => none

/-- R34(b): a Tag Check Fault is accumulated, outside the TFSR registers until it is synchronized. -/
def State.accumulateTagFault (s : State) (f : TagFaults) : State :=
  { s with pendingTagFaults :=
      ⟨s.pendingTagFaults.tfsre0El1 ||| f.tfsre0El1, s.pendingTagFaults.tfsrEl1 ||| f.tfsrEl1,
       s.pendingTagFaults.tfsrEl2 ||| f.tfsrEl2⟩ }

/-- R138: the accumulated faults are written into TFSRE0_EL1, TFSR_EL1 and TFSR_EL2. -/
def State.syncTagFaults (s : State) : State :=
  { s with
    tagFaults :=
      ⟨s.tagFaults.tfsre0El1 ||| s.pendingTagFaults.tfsre0El1, s.tagFaults.tfsrEl1 ||| s.pendingTagFaults.tfsrEl1,
       s.tagFaults.tfsrEl2 ||| s.pendingTagFaults.tfsrEl2⟩
    pendingTagFaults := ⟨0, 0, 0⟩ }

/-! ## Interrupts (R515) -/

/-- An interrupt as the environment presents it (D19). -/
structure PendingInterrupt where
  target        : EL
  superpriority : Bool
  deriving DecidableEq, Repr

/-- R515: what this spec says about masking: PSTATE.SP masks an IRQ or FIQ targeted to EL2, Superpriority or not. -/
def interruptMaskedBySp (s : State) (v : Dword) (i : PendingInterrupt) : Bool := i.target == .el2 && maskedBySp s v

end Sys2Proof.Machine
end

