-- ==== Sys2Proof/Machine/Tcr2El1.lean ====
section
/-! DEFINITION. The fields of TCR2_EL1 (spec/48 R380 to R398, R405), for a value `v` of the register that is in
force. -/

namespace Sys2Proof.Machine

/-- `TCR2Ignored` (R382). -/
def State.tcr2Ignored (s : State) : Bool :=
  (s.el2Enabled && !s.hcrxTcr2En) || (s.cfg.haveEL3 && !s.scrEl3.tcr2en)

/-- The stored TCR2_EL1.D128 bit, when it is a field (R389, R405, R425). -/
def storedD128 (s : State) (v : Dword) : Bool := s.has .D128 && bitAt v 5

/-- The Effective value of a field: 0 when TCR2_EL1 is ignored (R382, D11), otherwise what R405 makes of it.  A
field whose own feature is implemented acts with its stored bit also where FEAT_TCR2 is not: R380 says only that
accesses are then UNDEFINED (DESIGN CHOICE, log entry 52). -/
def tcr2Value (s : State) (v : Dword) (f : Tcr2Field) : Bool :=
  if s.tcr2Ignored then false
  else
    match tcr2Status s.cfg (storedD128 s v) f with
    | .field => bitAt v f.pos
    | .res0 => false
    | .res1 => true

/-- R381: every field but POE and E0POE may be cached in a TLB. -/
def tcr2Cacheable : Tcr2Field → Bool
  | .poe => false
  | .e0poe => false
  | _ => true

/-- The fields of TCR2_EL1 as they may be in force. -/
def tcr2ViewFields : List ViewField := tcr2Fields.map fun f => ⟨f.pos, 1, fun _ => tcr2Cacheable f⟩

/-- TCR2_EL1 as a rule sees it with draw `k` of the current instruction (R72, R561, R563). -/
def State.tcr2View (s : State) (k : Nat) : Dword := s.tcr2El1.view tcr2ViewFields (s.draw k)

/-- Which table base a translation of the EL1&0 regime uses (R463, D13). -/
inductive Region where
  | ttbr0 | ttbr1
  deriving DecidableEq, Repr

/-- The translation systems of R393. -/
inductive TranslationSystem where
  | vmsav8_64 | vmsav9_128
  deriving DecidableEq, Repr

/-- R393. -/
def translationSystem (s : State) (v : Dword) : TranslationSystem :=
  if tcr2Value s v .d128 then .vmsav9_128 else .vmsav8_64

/-- R384 to R387: a translation of the EL1&0 regime through `r` is treated as non-global whatever its nG bit.
`assured`: the final descriptor has the Assured Translation property; `bothStages`: stage 1 and stage 2 are enabled;
`protection`: Protection is enabled. -/
def forcedNonGlobal (s : State) (v : Dword) (r : Region) (bothStages protection assured : Bool) : Bool :=
  let fng := match r with | .ttbr0 => Tcr2Field.fng0 | .ttbr1 => .fng1
  let fngna := match r with | .ttbr0 => Tcr2Field.fngna0 | .ttbr1 => .fngna1
  tcr2Value s v fng || (tcr2Value s v fngna && bothStages && protection && !assured)

/-- R388; which two ASIDs is not said in any source. -/
def twoAsids (s : State) (v : Dword) : Bool := tcr2Value s v .a2

/-- R389, R390: the Contiguous bit of Block or Page descriptors of the start table, from its descriptor value. -/
def startTableContiguous (s : State) (v : Dword) (r : Region) (descriptorBit : Bool) : Bool :=
  let f := match r with | .ttbr0 => Tcr2Field.disCH0 | .ttbr1 => .disCH1
  if tcr2Value s v f then false else descriptorBit

/-- R391. -/
def tableAccessFlag (s : State) (v : Dword) : Bool := tcr2Value s v .haft

/-- R392: writes generated by RCWS at EL1&0 have the Reduced Coherence property. -/
def reducedCoherence (s : State) (v : Dword) : Bool := tcr2Value s v .pttwi && s.hcrxEl2.pttwi

/-- R394. -/
def attributeIndexing (s : State) (v : Dword) : Bool := tcr2Value s v .aie

/-- R395, R396: permission overlay for accesses from EL1 (`privileged`) or EL0. -/
def permissionOverlay (s : State) (v : Dword) (privileged : Bool) : Bool :=
  if privileged then tcr2Value s v .poe else tcr2Value s v .e0poe

/-- R397: the indirect permission model. -/
def indirectPermissions (s : State) (v : Dword) : Bool := tcr2Value s v .pie

/-- What R398 says of bit [52] of a stage 1 entry: that it is the Protected bit, and then not the Contiguous bit, or
that it is not the Protected bit.  What it is in that case depends on the kind of entry (R73). -/
inductive Bit52 where
  | protectedBit | notProtectedBit
  deriving DecidableEq, Repr

/-- R398. -/
def bit52Meaning (s : State) (v : Dword) : Bit52 := if tcr2Value s v .pnch then .protectedBit else .notProtectedBit

end Sys2Proof.Machine
end

