-- ==== Sys2Proof/Machine/TcrEl1.lean ====
section
/-! DEFINITION. The fields of TCR_EL1 (spec/49 R420 to R464), for a value `v` of the register and, where a field
depends on TCR2_EL1, a value `v2` of that register in force.  The translation walk itself is outside the spec (R73).
-/

namespace Sys2Proof.Machine

/-- The stored value of a field while it is one, 0 otherwise: every reserved bit of TCR_EL1 is RES0 (R422, R425). -/
def tcrValue (s : State) (v v2 : Dword) (f : TcrField) : Nat :=
  match tcrStatus s.cfg (storedD128 s v2) f with
  | .field => fieldAt v f.lo f.width
  | .res0 => 0
  | .res1 => 2 ^ f.width - 1

/-- A one-bit field acts as 1. -/
def tcrBit (s : State) (v v2 : Dword) (f : TcrField) : Bool := decide (tcrValue s v v2 f = 1)

/-- R421: A1 is never cached in a TLB; EPD0 and EPD1 only while `held`, the value a TLB captured, is 0. -/
def tcrCacheable (f : TcrField) (held : Nat) : Bool :=
  match f with
  | .a1 => false
  | .epd0 => held == 0
  | .epd1 => held == 0
  | _ => true

/-- The fields of TCR_EL1 as they may be in force. -/
def tcrViewFields : List ViewField := tcrFields.map fun f => ⟨f.lo, f.width, fun held => tcrCacheable f held⟩

/-- TCR_EL1 as a rule sees it with draw `k` of the current instruction (R72, R561, R563). -/
def State.tcrView (s : State) (k : Nat) : Dword := s.tcrEl1.view tcrViewFields (s.draw k)

/-- The region of a virtual address (R463, D13): bit 55. -/
def regionOf (a : Dword) : Region := if bitAt a 55 then .ttbr1 else .ttbr0

/-- The field of a pair for a region. -/
def perRegion (r : Region) (f0 f1 : TcrField) : TcrField :=
  match r with
  | .ttbr0 => f0
  | .ttbr1 => f1

/-! ## Address tagging (R423, R424, R426, R427, R432, R433, R446, R447, R82) -/

/-- `TBI<r>` applies to instruction addresses: set, and not restricted to data by TBID<r>. -/
def tbiInstruction (s : State) (v v2 : Dword) (r : Region) : Bool :=
  tcrBit s v v2 (perRegion r .tbi0 .tbi1) && !(s.has .PAuth && tcrBit s v v2 (perRegion r .tbid0 .tbid1))

/-- The top byte of a data address is ignored (R446, R447). -/
def tbiData (s : State) (v v2 : Dword) (r : Region) : Bool := tcrBit s v v2 (perRegion r .tbi0 .tbi1)

/-- How an address is used, for TBID0 and TBID1. -/
inductive AddressUse where
  | instruction | data | cacheMaintenance | addressTranslation
  deriving DecidableEq, Repr

/-- The top byte of an address of the region is ignored in that use: cache maintenance and address translation
instructions that perform address translation are treated as data accesses (R432, R433). -/
def topByteIgnored (s : State) (v v2 : Dword) (r : Region) : AddressUse → Bool
  | .instruction => tbiInstruction s v v2 r
  | .data => tbiData s v v2 r
  | .cacheMaintenance => tbiData s v v2 r
  | .addressTranslation => tbiData s v v2 r

/-- R446, R447: the address stored to the PC for a target `a`, when tags are ignored in region 0 (`ignore0`) and
region 1 (`ignore1`) for instruction addresses. -/
def pcFromTarget (ignore0 ignore1 : Bool) (a : Dword) : Dword :=
  if bitAt a 55 then (if ignore1 then a ||| fieldMask 56 8 else a)
  else (if ignore0 then a &&& ~~~fieldMask 56 8 else a)

/-- R446, R447 with the values of TCR_EL1 and TCR2_EL1. -/
def tbiTarget (s : State) (v v2 : Dword) (a : Dword) : Dword :=
  pcFromTarget (tbiInstruction s v v2 .ttbr0) (tbiInstruction s v v2 .ttbr1) a

/-- R423, R424: bits [59:56] of an address of the region hold a Logical Address Tag. -/
def logicalTag (s : State) (v v2 : Dword) (a : Dword) : Option (BitVec 4) :=
  if tcrBit s v v2 (perRegion (regionOf a) .mtx0 .mtx1) then some (a.extractLsb' 56 4) else none

/-- R423, R424: the bits of an address that MTX0 or MTX1 takes out of the PAC field. -/
def outsidePacField (s : State) (v v2 : Dword) (a : Dword) : Dword :=
  if s.has .PAuth && (logicalTag s v v2 a).isSome then fieldMask 56 4 else 0

/-- R423, R424: a Canonical Tag Check operation is performed on a data access at `a`.  `tagChecked`: the access is Tag
Checked; `canonicallyTagged`: its location is. -/
def canonicalTagCheck (s : State) (v v2 : Dword) (a : Dword) (tagChecked canonicallyTagged : Bool) : Bool :=
  (logicalTag s v v2 a).isSome && tagChecked && canonicallyTagged

/-- R423, R424: the address as the range check sees it, with the tag bits replaced. -/
def rangeCheckAddress (s : State) (v v2 : Dword) (a : Dword) : Dword :=
  match logicalTag s v v2 a with
  | none => a
  | some _ =>
    match regionOf a with
    | .ttbr0 => a &&& ~~~fieldMask 56 4
    | .ttbr1 => a ||| fieldMask 56 4

/-- R426, R427: accesses at EL1, and at EL0 unless {E2H, TGE} is {1, 1}, to addresses of the pattern are Unchecked. -/
def tcmaUnchecked (s : State) (v v2 : Dword) (a : Dword) : Bool :=
  (s.pstate.el == .el1 || (s.pstate.el == .el0 && !s.e2hTge)) &&
    ((fieldAt a 55 5 == 31 && tcrBit s v v2 .tcma1) || (fieldAt a 55 5 == 0 && tcrBit s v v2 .tcma0))

/-! ## Faults and walks (R425, R428 to R431, R454, R461) -/

/-- R428, R429: an unprivileged access to an address of the region. -/
def e0pdFault (s : State) (v v2 : Dword) (unprivileged : Bool) (a : Dword) : Option NamedFault :=
  if unprivileged && tcrBit s v v2 (perRegion (regionOf a) .e0pd0 .e0pd1) then some .level0Translation else none

/-- The accesses of which R430 says whether NFD0 and NFD1 affect them. -/
inductive NonFaultAccess where
  /-- SVE non-fault contiguous load. -/
  | nonFaultContiguous
  /-- SVE first-fault gather load; whether the access is for the First active element. -/
  | firstFaultGather (firstActive : Bool)
  /-- SVE first-fault contiguous load. -/
  | firstFaultContiguous
  /-- Prefetch: it "might be affected, but the effect is not architecturally visible". -/
  | prefetch
  deriving DecidableEq, Repr

/-- The affected access types (R430), as far as the effect is visible. -/
def NonFaultAccess.affected : NonFaultAccess → Bool
  | .nonFaultContiguous => true
  | .firstFaultGather firstActive => !firstActive
  | .firstFaultContiguous => false
  | .prefetch => false

/-- R430, R431: a TLB miss at `a` of an unprivileged access of an affected type fails without taking an exception. -/
def nonFaultMiss (s : State) (v v2 : Dword) (k : NonFaultAccess) (unprivileged : Bool) (a : Dword) :
    Option NamedFault :=
  if unprivileged && k.affected && tcrBit s v v2 (perRegion (regionOf a) .nfd0 .nfd1) then some .nonFaultReported
  else none

/-- R454, R461: a TLB miss generates a Translation fault and no walk is performed. -/
def walkDisabled (s : State) (v v2 : Dword) (a : Dword) : Option NamedFault :=
  if tcrBit s v v2 (perRegion (regionOf a) .epd0 .epd1) then some .translationNoWalk else none

/-! ## Granules, sizes and the output address (R425, R449, R450, R456, R457, R462) -/

/-- The value table of TG0 (R457). -/
def tg0Programmed (n : Nat) : Option Granule :=
  if n = 0 then some .g4K else if n = 1 then some .g64K else if n = 2 then some .g16K else none

/-- The value table of TG1 (R450). -/
def tg1Programmed (n : Nat) : Option Granule :=
  if n = 1 then some .g16K else if n = 2 then some .g4K else if n = 3 then some .g64K else none

/-- The encoding of a granule in TG0. -/
def tg0Code : Granule → BitVec 2
  | .g4K => 0
  | .g64K => 1
  | .g16K => 2

/-- The encoding of a granule in TG1. -/
def tg1Code : Granule → BitVec 2
  | .g16K => 1
  | .g4K => 2
  | .g64K => 3

/-- R450, R457: a reserved value or an unimplemented size is treated as the implementation's choice. -/
def granuleOr (c : Config) (programmed : Option Granule) (fallback : Granule) : Granule :=
  match programmed with
  | some g => if c.granules.contains g then g else fallback
  | none => fallback

/-- `TG_FALLBACK` is "a choice of the sizes that has been implemented" (R450, R457). -/
def granulesLegal (c : Config) : Bool := c.granules.contains c.tg0Fallback && c.granules.contains c.tg1Fallback

/-- The granule of a region. -/
def granuleOf (c : Config) (v : Dword) : Region → Granule
  | .ttbr0 => granuleOr c (tg0Programmed (fieldAt v 14 2)) c.tg0Fallback
  | .ttbr1 => granuleOr c (tg1Programmed (fieldAt v 30 2)) c.tg1Fallback

/-- What an MRS returns for the stored value `v` of TCR_EL1: the programmed granules, or the chosen ones (R450, R457,
`TG_READBACK`), and the constant bits of D3. -/
def tcrReadBack (c : Config) (v : Dword) : Dword :=
  let w := (tcrConstants c).apply v
  if c.tgReadbackChosen then
    mergeBits (fieldMask 14 2 ||| fieldMask 30 2) w
      (((tg0Code (granuleOf c v .ttbr0)).setWidth 64 <<< 14) ||| ((tg1Code (granuleOf c v .ttbr1)).setWidth 64 <<< 30))
  else w

/-- R425: the Effective value of DS for a region; it is RES0 for a 64KB granule. -/
def effDs (s : State) (v v2 : Dword) (r : Region) : Bool :=
  if granuleOf s.cfg v r = .g64K then false else tcrBit s v v2 .ds

/-- T0SZ or T1SZ. -/
def tsz (s : State) (v v2 : Dword) (r : Region) : Nat := tcrValue s v v2 (perRegion r .t0sz .t1sz)

/-- R456, R462: the size of a region in bytes. -/
def regionSize (s : State) (v v2 : Dword) (r : Region) : Nat := 2 ^ (64 - tsz s v v2 r)

/-- R425: the least permitted TxSZ. -/
def minTsz (s : State) (v v2 : Dword) (r : Region) : Nat := if effDs s v v2 r then 12 else 16

/-- R425: any access with a smaller TxSZ generates a stage 1 level 0 translation table fault. -/
def tszFault (s : State) (v v2 : Dword) (a : Dword) : Option NamedFault :=
  if tsz s v v2 (regionOf a) < minTsz s v v2 (regionOf a) then some .level0TranslationTable else none

/-- R456: the initial lookup levels the notes give; `none` where they say nothing. -/
def initialLevelNote (s : State) (v v2 : Dword) (r : Region) : Option Int :=
  if s.has .LPA2 && tcrBit s v v2 .ds then
    match granuleOf s.cfg v r with
    | .g4K => if tsz s v v2 r < 16 then some (-1) else none
    | .g16K => if tsz s v v2 r < 17 then some 0 else none
    | .g64K => none
  else none

/-- The size that IPS value 0b110 represents (R449). -/
def ips110Bits (c : Config) (sys : TranslationSystem) (g : Granule) (ds : Bool) : Nat :=
  if c.paRange.bits ≤ 48 then 48
  else
    match sys, g with
    | .vmsav9_128, _ => 52
    | .vmsav8_64, .g64K => 52
    | .vmsav8_64, _ => if ds then 52 else 48

/-- The size that IPS value 0b111 represents (R449). -/
def ips111Bits (c : Config) (sys : TranslationSystem) (g : Granule) (ds : Bool) : Nat :=
  if 56 ≤ c.paRange.bits then
    match sys with
    | .vmsav9_128 => 56
    | .vmsav8_64 => ips110Bits c sys g ds
  else ips110Bits c sys g ds

/-- The output address size the IPS field represents, before the cap of PARange. -/
def ipsBits (c : Config) (sys : TranslationSystem) (g : Granule) (ds : Bool) (ips : Nat) : Nat :=
  if ips = 0 then 32 else if ips = 1 then 36 else if ips = 2 then 40 else if ips = 3 then 42
  else if ips = 4 then 44 else if ips = 5 then 48
  else if ips = 6 then ips110Bits c sys g ds else ips111Bits c sys g ds

/-- R449: the output address size, no larger than the supported physical address size. -/
def outputAddressBits (s : State) (v v2 : Dword) (r : Region) : Nat :=
  Nat.min s.cfg.paRange.bits
    (ipsBits s.cfg (translationSystem s v2) (granuleOf s.cfg v r) (effDs s v v2 r) (tcrValue s v v2 .ips))

/-- The largest output address the descriptors of a region can express, in bits (R425, R449; 52 for the 64KB granule
is the last column of the IPS table). -/
def expressibleBits (s : State) (v v2 : Dword) (r : Region) : Nat :=
  match translationSystem s v2 with
  | .vmsav9_128 => 56
  | .vmsav8_64 => if granuleOf s.cfg v r = .g64K || effDs s v v2 r then 52 else 48

/-- R449: a translation table base address as the stage of translation takes it: bits [51:48], and bits [55:52], are
treated as 0 where that physical address size is supported and the descriptors cannot express it. -/
def tableBase (s : State) (v v2 : Dword) (r : Region) (base : Dword) : Dword :=
  let drop := fun (supported expressible lo : Nat) (b : Dword) =>
    if supported ≤ s.cfg.paRange.bits && decide (expressibleBits s v v2 r ≤ expressible) then
      b &&& ~~~fieldMask lo 4
    else b
  drop 56 52 52 (drop 52 48 48 base)

/-! ## What DS says of descriptors and of table bases (R425) -/

/-- The kinds of a translation table descriptor that DS tells apart. -/
inductive DescriptorKind where
  | block | page | table
  deriving DecidableEq, Repr

/-- What two bits of a descriptor hold. -/
inductive DescriptorBits where
  | res0
  /-- The SH field. -/
  | shareability (sh : BitVec 2)
  /-- Ignored by hardware. -/
  | ignored
  /-- Two bits of the output address. -/
  | outputAddress (bits : BitVec 2)
  deriving DecidableEq, Repr

/-- DS says how the descriptors of the region are laid out: it is RES0 for a 64KB granule, and without effect in
VMSAv9-128.  The layouts of these two are in no source (log entry 62). -/
def dsGoverns (s : State) (v v2 : Dword) (r : Region) : Bool :=
  granuleOf s.cfg v r != .g64K && translationSystem s v2 == .vmsav8_64

/-- R425: what bits [49:48] of a descriptor `d` hold. -/
def descriptorBits49To48 (s : State) (v v2 : Dword) (r : Region) (d : Dword) : Option DescriptorBits :=
  if !dsGoverns s v v2 r then none
  else if effDs s v v2 r then some (.outputAddress (d.extractLsb' 48 2)) else some .res0

/-- R425: what bits [9:8] of a descriptor `d` hold. -/
def descriptorBits9To8 (s : State) (v v2 : Dword) (r : Region) (kind : DescriptorKind) (d : Dword) :
    Option DescriptorBits :=
  if !dsGoverns s v v2 r then none
  else if effDs s v v2 r then some (.outputAddress (d.extractLsb' 8 2))
  else
    match kind with
    | .block => some (.shareability (d.extractLsb' 8 2))
    | .page => some (.shareability (d.extractLsb' 8 2))
    | .table => some .ignored

/-- R425: output address [51:48] of a descriptor `d`: its bits [9:8] and [49:48] with DS 1, 0 with DS 0. -/
def descriptorOutputTop (s : State) (v v2 : Dword) (r : Region) (d : Dword) : Option (BitVec 4) :=
  if !dsGoverns s v v2 r then none
  else if effDs s v v2 r then some (d.extractLsb' 8 2 ++ d.extractLsb' 48 2) else some 0

/-- The translation table base register of a region. -/
def ttbrOf (s : State) : Region → Dword
  | .ttbr0 => s.controlled.ttbr0El1
  | .ttbr1 => s.controlled.ttbr1El1

/-- R425: the base address of the first table of the region, of `entries` entries, where the walk (outside the spec,
R73) would start from `base`.  With DS 1 bits [51:48] are bits [5:2] of the TTBR in all cases, and a table of fewer
than 8 entries is aligned to 64 bytes; with DS 0 bits [51:48] are 0. -/
def startTableBase (s : State) (v v2 : Dword) (r : Region) (entries : Nat) (base : Dword) : Option Dword :=
  let withTop := fun (top : BitVec 4) (b : Dword) => mergeBits (fieldMask 48 4) b (top.setWidth 64 <<< 48)
  if !dsGoverns s v v2 r then none
  else if effDs s v v2 r then
    some (withTop ((ttbrOf s r).extractLsb' 2 4) (if entries < 8 then base &&& ~~~fieldMask 0 6 else base))
  else some (withTop 0 base)

/-- R425: with DS 1, BaseADDR of a TLBI range argument, whose bits [36:0] are BaseADDR[52:16]; its bits [15:12], or
[15:14], are then 0.  The format with DS 0 is in no source. -/
def tlbiBase (s : State) (v v2 : Dword) (r : Region) (arg : Dword) : Option Dword :=
  if effDs s v v2 r then some ((arg &&& fieldMask 0 37) <<< 16) else none

/-! ## Attributes of the walk (R451 to R453, R458 to R460) -/

/-- R451, R458. -/
inductive Shareability where
  | nonShareable | outerShareable | innerShareable
  deriving DecidableEq, Repr

/-- The value table of SH0 and SH1; 0b01 is reserved and acts as the defined value `reservedAs` (D10). -/
def shareability (reservedAs : BitVec 2) (n : Nat) : Shareability :=
  let table := fun (k : Nat) =>
    if k = 2 then Shareability.outerShareable else if k = 3 then .innerShareable else .nonShareable
  if n = 1 then table reservedAs.toNat else table n

/-- The shareability of walks of a region. -/
def walkShareability (s : State) (v v2 : Dword) (r : Region) : Shareability :=
  match r with
  | .ttbr0 => shareability s.cfg.reservedAs.sh0 (tcrValue s v v2 .sh0)
  | .ttbr1 => shareability s.cfg.reservedAs.sh1 (tcrValue s v v2 .sh1)

/-- Where the shareability of a Block or Page descriptor comes from (R425). -/
inductive LeafShareability where
  /-- The SH field of the descriptor encodes it: bits [9:8], where DS governs the layout (`descriptorBits9To8`). -/
  | inDescriptor
  /-- The SH field of TCR_EL1 for the region. -/
  | fromControl (s : Shareability)
  deriving DecidableEq, Repr

/-- R425: with DS 0 the descriptor's SH field; with DS 1, for a cacheable location, SH0 or SH1 by region (`none` for
other locations, of which the rule says nothing).  With a 64KB granule and in VMSAv9-128 DS acts as 0, and the model
takes the shareability from the descriptor there as well; where in it, `descriptorBits9To8` leaves open (DEDUCED, log
entry 73). -/
def leafShareability (s : State) (v v2 : Dword) (r : Region) (cacheable : Bool) : Option LeafShareability :=
  if !effDs s v v2 r then some .inDescriptor
  else if cacheable then some (.fromControl (walkShareability s v v2 r)) else none

/-- R452, R453, R459, R460. -/
inductive WalkAttribute where
  | nonCacheable | writeBackReadWriteAllocate | writeThroughReadAllocate | writeBackReadAllocate
  deriving DecidableEq, Repr

/-- The value table of ORGN and IRGN. -/
def walkAttribute (n : Nat) : WalkAttribute :=
  if n = 0 then .nonCacheable else if n = 1 then .writeBackReadWriteAllocate
  else if n = 2 then .writeThroughReadAllocate else .writeBackReadAllocate

/-- Outer and inner cacheability of walks of a region. -/
def walkAttributes (s : State) (v v2 : Dword) (r : Region) : WalkAttribute × WalkAttribute :=
  (walkAttribute (tcrValue s v v2 (perRegion r .orgn0 .orgn1)),
   walkAttribute (tcrValue s v v2 (perRegion r .irgn0 .irgn1)))

/-! ## Access flag, permissions, hardware use, ASIDs (R434 to R445, R448, R455) -/

/-- R445. -/
def accessFlagUpdate (s : State) (v v2 : Dword) : Bool := tcrBit s v v2 .ha

/-- R444: HD behaves as 0 when HA is 0. -/
def dirtyStateUpdate (s : State) (v v2 : Dword) : Bool := tcrBit s v v2 .ha && tcrBit s v v2 .hd

/-- R442, R443. -/
def hierarchicalPermissionsDisabled (s : State) (v v2 : Dword) (r : Region) : Bool :=
  tcrBit s v v2 (perRegion r .hpd0 .hpd1)

/-- The hierarchical control bits of a Table descriptor. -/
structure TableControls where
  apTable  : BitVec 2
  pxnTable : Bool
  uxnTable : Bool
  nsTable  : Bool
  deriving DecidableEq, Repr

/-- R442, R443: disabled hierarchical permissions are treated as if the bits were zero, except NSTable. -/
def tableControls (s : State) (v v2 : Dword) (r : Region) (t : TableControls) : TableControls :=
  if hierarchicalPermissionsDisabled s v v2 r then { t with apTable := 0, pxnTable := false, uxnTable := false }
  else t

/-- The HWU field of a region and a descriptor bit 59 to 62 (R441). -/
def hwuPos (r : Region) (descriptorBit : Nat) : Nat :=
  match r with
  | .ttbr0 => 43 + (descriptorBit - 59)
  | .ttbr1 => 47 + (descriptorBit - 59)

/-- R434 to R441: the descriptor bit can be used by hardware; the Effective value is 0 when HPD<r> is 0. -/
def hardwareUse (s : State) (v v2 : Dword) (r : Region) (descriptorBit : Nat) : Bool :=
  s.has .HPDS2 && hierarchicalPermissionsDisabled s v v2 r && bitAt v (hwuPos r descriptorBit)

/-- R448: the ASID in the upper bits of a TTBR; with AS 0 its upper 8 bits are taken as zeros. -/
def asidOf (s : State) (v v2 ttbr : Dword) : BitVec 16 :=
  let asid := ttbr.extractLsb' 48 16
  if tcrBit s v v2 .as then asid else asid &&& 0xFF

/-- R455: the ASID of TTBR0_EL1 or TTBR1_EL1, as A1 selects; `none` while TCR2_EL1.A2 enables the use of two ASIDs:
which two, and how A1 then interacts, is not said in any source (R388). -/
def currentAsid (s : State) (v v2 : Dword) : Option (BitVec 16) :=
  if twoAsids s v2 then none
  else some (asidOf s v v2 (if tcrBit s v v2 .a1 then s.controlled.ttbr1El1 else s.controlled.ttbr0El1))

end Sys2Proof.Machine
end

