-- ==== Sys2Proof/Machine/Ops.lean ====
section
/-! DEFINITION. The named operations over memory, the owned registers and the exception state: NVMem (spec/20 R75),
the storage of the registers (spec/10 R30, D3), taking an exception (spec/60 R501, R502, R512, R513, R521) and the
return from one (R514), and the shared course of an MRS and an MSR. -/

namespace Sys2Proof.Machine

/-! ## Memory -/

/-- What an address reads as that no entry lists (DESIGN CHOICE, log entry 6). -/
def Memory.default : Byte := 0

/-- The byte at an address. -/
def Memory.read : Memory → Nat → Byte
  | [], _ => Memory.default
  | (k, b) :: m, a => if a = k then b else Memory.read m a

/-- Store a byte, keeping the canonical form: a byte equal to what an unlisted address reads as is not listed. -/
def Memory.write : Memory → Nat → Byte → Memory
  | [], a, v => if v = Memory.default then [] else [(a, v)]
  | (k, b) :: m, a, v =>
    if a < k then (if v = Memory.default then (k, b) :: m else (a, v) :: (k, b) :: m)
    else if a = k then (if v = Memory.default then m else (a, v) :: m)
    else (k, b) :: Memory.write m a v

/-- The canonical form from an exclusive lower bound on: addresses strictly rising, inside the 64-bit space, and no
entry equal to what an unlisted address reads as. -/
def Memory.wfFrom (lo : Nat) : Memory → Bool
  | [] => true
  | (k, b) :: m => decide (lo ≤ k) && decide (k < 2 ^ 64) && decide (b ≠ Memory.default) && Memory.wfFrom (k + 1) m

/-- The canonical form of memory. -/
def Memory.wf (m : Memory) : Bool := Memory.wfFrom 0 m

/-- The addresses of `n` consecutive bytes from `a`, in the 64-bit space (R60(b)). -/
def byteAddresses (a : Dword) (n : Nat) : List Nat := (List.range n).map fun i => (a + BitVec.ofNat 64 i).toNat

/-- Store bytes at consecutive addresses, the first at the lowest. -/
def Memory.writeBytes (m : Memory) (addresses : List Nat) (bytes : List Byte) : Memory :=
  (addresses.zip bytes).foldl (fun m p => m.write p.1 p.2) m

/-- The byte of memory at an address. -/
def State.byteAt (s : State) (a : Nat) : Byte := s.mem.read a

/-- A store of `bytes` at `a`.  A fetch of these addresses may still return what stood there (R79). -/
def State.storeBytes (s : State) (a : Dword) (bytes : List Byte) : State :=
  let addresses := byteAddresses a bytes.length
  { s with
    mem := s.mem.writeBytes addresses bytes
    staleFetch := addresses.map (fun k => (k, s.mem.read k)) ++ s.staleFetch }

/-! ## NVMem (R75) -/

/-- The address of `NVMem[offset]`. -/
def State.nvMemAddress (s : State) (offset : Dword) : Dword := s.nvMemBase + offset

/-- The byte order of an NVMem access: that of EL2 data accesses (D6), by the value of SCTLR_EL2.EE in force. -/
def State.nvMemBigEndian (s : State) : Bool := eeBigEndian s (s.sctlrView slotNvMem)

/-- `NVMem[offset]`, an 8-byte access made as one. -/
def State.nvMemRead (s : State) (offset : Dword) : Dword :=
  valueOfBytes s.nvMemBigEndian ((byteAddresses (s.nvMemAddress offset) 8).map s.byteAt)

/-- `NVMem[offset] <- v`. -/
def State.nvMemWrite (s : State) (offset v : Dword) : State :=
  s.storeBytes (s.nvMemAddress offset) (orderedBytes s.nvMemBigEndian v)

/-! ## The registers an accessor can reach -/

/-- The registers of R503, with the accessor name where R560 makes it matter. -/
inductive SysReg where
  | sctlrEl2 (name : AccessName)
  | sctlrEl1
  | hfgrtr2El2
  | tcrEl1 (name : AccessName)
  | tcrEl2
  | tcr2El1 (name : AccessName)
  | tcr2El2
  | idAa64dfr0
  | idAa64isar1
  | idAa64isar2
  | idAa64smfr0
  deriving DecidableEq, Repr

/-- What an MRS of SCTLR_EL2 returns for the stored value `v` (D3): the constant bits, and of a bit that every context
reserves the constant of the current one. -/
def State.sctlrReadBack (s : State) (v : Dword) : Dword :=
  (sctlrConstants s.cfg).apply v ||| sctlrReservedOnes s.cfg s.host2 s.host0

/-- What an MRS of a register returns for the stored value `v` (R30, R31, D3). -/
def State.readBack (s : State) (r : SysReg) (v : Dword) : Dword :=
  match r with
  | .sctlrEl2 _ => if s.cfg.haveEL2 then s.sctlrReadBack v else 0
  | .sctlrEl1 => v
  | .hfgrtr2El2 => if s.cfg.haveEL2 then (hfgrtr2Constants s.cfg).apply v else 0
  | .tcrEl1 _ => tcrReadBack s.cfg v
  | .tcrEl2 => v
  | .tcr2El1 _ => (tcr2Constants s.cfg).apply v
  | .tcr2El2 => v
  | .idAa64dfr0 => v
  | .idAa64isar1 => v
  | .idAa64isar2 => v
  | .idAa64smfr0 => v &&& ~~~smfr0Res0 s.cfg

/-- Both names of the pair reach SCTLR_EL2 here (R190, R560): at EL2 in host. -/
def State.sctlrNameHazard (s : State) : Bool := s.pstate.el == .el2 && s.host2

/-- Both names of a pair reach TCR_EL1 or TCR2_EL1 here (R399, R478, R560): at EL3 in host. -/
def State.tcrNameHazard (s : State) : Bool := s.pstate.el == .el3 && s.host2

/-- The value a read finds stored (R560 for the registers with two names). -/
def State.storedValue (s : State) (r : SysReg) : Dword :=
  match r with
  | .sctlrEl2 name => s.sctlrEl2.directRead s.sctlrNameHazard name (s.draw slotRead)
  | .sctlrEl1 => s.sctlrEl1
  | .hfgrtr2El2 => s.hfgrtr2El2.val
  | .tcrEl1 name => s.tcrEl1.directRead s.tcrNameHazard name (s.draw slotRead)
  | .tcrEl2 => s.tcrEl2
  | .tcr2El1 name => s.tcr2El1.directRead s.tcrNameHazard name (s.draw slotRead)
  | .tcr2El2 => s.tcr2El2
  | .idAa64dfr0 => s.cfg.idAa64dfr0
  | .idAa64isar1 => s.cfg.idAa64isar1
  | .idAa64isar2 => s.cfg.idAa64isar2
  | .idAa64smfr0 => s.cfg.idAa64smfr0

/-- What an MRS of the register returns (R30, R31, D3). -/
def State.readReg (s : State) (r : SysReg) : Dword := s.readBack r (s.storedValue r)

/-- The state after that read: the order of the accesses to a register with two names has one more (R560); nothing
that software can read by itself changes. -/
def State.orderRead (s : State) (r : SysReg) : State :=
  match r with
  | .sctlrEl2 name =>
    if s.cfg.haveEL2 then
      { s with sctlrEl2 := s.sctlrEl2.afterRead s.sctlrNameHazard name (s.draw slotRead) }
    else s
  | .sctlrEl1 => s
  | .hfgrtr2El2 => s
  | .tcrEl1 name => { s with tcrEl1 := s.tcrEl1.afterRead s.tcrNameHazard name (s.draw slotRead) }
  | .tcrEl2 => s
  | .tcr2El1 name => { s with tcr2El1 := s.tcr2El1.afterRead s.tcrNameHazard name (s.draw slotRead) }
  | .tcr2El2 => s
  | .idAa64dfr0 => s
  | .idAa64isar1 => s
  | .idAa64isar2 => s
  | .idAa64smfr0 => s

/-- A direct write of `v` under the write mask `m` (R195; 0 where the accessor does not mask).  The constant bits keep
their constant (D3 (a)); a register that is RES0 because EL2 is absent ignores the write (D3 (d)); an ID register has
no write form. -/
def State.writeReg (s : State) (r : SysReg) (v m : Dword) : State :=
  let write := fun (k : ConstantBits) (old : CtlReg) (cacheable hazard : Bool) (name : AccessName) =>
    old.directWrite cacheable hazard name (k.apply v) (k.maskOnStorage m) (s.draw slotWrite)
  match r with
  | .sctlrEl2 name =>
    if s.cfg.haveEL2 then
      { s with sctlrEl2 := write (sctlrConstants s.cfg) s.sctlrEl2 true s.sctlrNameHazard name }
    else s
  | .sctlrEl1 => { s with sctlrEl1 := maskedWrite v s.sctlrEl1 m }
  | .hfgrtr2El2 =>
    if s.cfg.haveEL2 then
      { s with hfgrtr2El2 := write (hfgrtr2Constants s.cfg) s.hfgrtr2El2 false false .unpaired }
    else s
  | .tcrEl1 name => { s with tcrEl1 := write (tcrConstants s.cfg) s.tcrEl1 true s.tcrNameHazard name }
  | .tcrEl2 => { s with tcrEl2 := maskedWrite v s.tcrEl2 m }
  | .tcr2El1 name => { s with tcr2El1 := write (tcr2Constants s.cfg) s.tcr2El1 true s.tcrNameHazard name }
  | .tcr2El2 => { s with tcr2El2 := maskedWrite v s.tcr2El2 m }
  | .idAa64dfr0 => s
  | .idAa64isar1 => s
  | .idAa64isar2 => s
  | .idAa64smfr0 => s

/-! ## Taking an exception (R501, R502, R512, R513, R521) -/

/-- The registers of a level; EL0 has none and no exception is taken to it. -/
def State.bank (s : State) : EL → ExceptionBank
  | .el0 => s.bankEl1
  | .el1 => s.bankEl1
  | .el2 => s.bankEl2
  | .el3 => s.bankEl3

/-- Replace the registers of a level. -/
def State.setBank (s : State) (el : EL) (b : ExceptionBank) : State :=
  match el with
  | .el0 => s
  | .el1 => { s with bankEl1 := b }
  | .el2 => { s with bankEl2 := b }
  | .el3 => { s with bankEl3 := b }

/-- ESR_ELx (R501): EC in bits [31:26], IL (1 for a 32-bit instruction) in bit [25], ISS in bits [24:0].  The rule
lays out no more; `upper` stands in bits [63:32] (log entry 56). -/
def syndrome (upper : BitVec 32) (ec : BitVec 6) (iss : BitVec 25) : Dword := upper ++ ec ++ 1#1 ++ iss

/-- The ISS of a trapped MRS or MSR (R501): Op0, Op2, Op1, CRn, Rt, CRm, Direction. -/
def accessIss (w : InstrWord) : BitVec 25 :=
  let c := wordCoordinate w
  0#3 ++ 1#1 ++ BitVec.ofBool (wordO0 w) ++ c.op2 ++ c.op1 ++ c.crn ++ w.extractLsb' 0 5 ++ c.crm ++
    BitVec.ofBool (wordIsRead w)

/-- The offset of the handler from the vector base (R521: parameters of the surrounding PE model). -/
def vectorOffset (c : EntryInterface) (origin target : EL) (sp : Bool) : Dword :=
  if origin = target then (if sp then c.offsetSpx else c.offsetSp0) else c.offsetLower

/-- R513: an address stored to the PC at EL1 or EL0, by the top-byte controls of TCR_EL1 in force.  TBI and TBID do
not depend on TCR2_EL1, so that argument is 0. -/
def State.pcTarget (s : State) (a : Dword) (slot : Nat) : Dword := tbiTarget s (s.tcrView slot) 0 a

/-- What R512 says of PSTATE on entry to EL2 (PAN, SSBS, ALLINT), each from the value of SCTLR_EL2 in force; SP and
BTYPE are the interface's (R521). -/
def State.pstateIntoEl2 (s : State) : PState where
  el := .el2
  sp := s.cfg.entry.spAfter
  allint := entryAllint s (s.sctlrView slotEntry) s.pstate.allint
  pan := if entrySetsPan s (s.sctlrView (slotEntry + 1)) then true else s.pstate.pan
  ssbs := entrySsbs s (s.sctlrView (slotEntry + 2)) s.pstate.ssbs
  btype := s.cfg.entry.btypeAfter

/-- PSTATE on entry to EL1 or EL3: SCTLR_EL1 and SCTLR_EL3 are not described, so PAN, SSBS and ALLINT are free where
their feature exists (R521; log entry 12). -/
def State.pstateIntoOther (s : State) (target : EL) : PState where
  el := target
  sp := s.cfg.entry.spAfter
  allint := if s.has .NMI then Config.freeBit (s.draw slotEntry) else s.pstate.allint
  pan := Config.freeBit (s.draw (slotEntry + 1))
  ssbs := if s.has .SSBS then Config.freeBit (s.draw (slotEntry + 2)) else s.pstate.ssbs
  btype := s.cfg.entry.btypeAfter

/-- The common part of entry: the return address, PSTATE and the syndrome are saved in the registers of the target
level, and the PC goes to the vector (R501, R521; the preferred return address is the instruction's own, D5).  Bits
of SPSR that no modelled PSTATE field occupies, an ISS the spec does not state and with it bits [63:32] of the
syndrome, and the EC of a fault that has only a name, are free values; where the spec states the ISS, bits [63:32] are
0, as in the values of ESR_EL2 it gives (R501; PRESUMED, log entry 56). -/
def State.saveAndVector (s : State) (kind : ExcKind) (target : EL) (cause : ExcCause) (iss : Option (BitVec 25))
    (ctxSync errorSync : Bool) : State :=
  let b := s.bank target
  let ec :=
    match cause with
    | .ec code => code
    | .fault _ => (Config.freeDword (s.draw (slotEntry + 9))).setWidth 6
  let unstated := Config.freeDword (s.draw (slotEntry + 4))
  let issBits := iss.getD (unstated.setWidth 25)
  let upper := if iss.isSome then 0 else unstated.extractLsb' 32 32
  let handler := b.vbar + vectorOffset s.cfg.entry s.pstate.el target s.pstate.sp
  let s1 := s.setBank target
    { esr := syndrome upper ec issBits
      spsr := spsrOfPState s.pstate (Config.freeDword (s.draw (slotEntry + 5)))
      elr := s.pc
      vbar := b.vbar }
  { s1 with
    pc := if target = .el1 then s.pcTarget handler (slotEntry + 8) else handler
    lastException := some ⟨kind, target, cause, iss, ctxSync, errorSync⟩ }

/-- An exception to EL2 (R512).  FAR_EL2 and HPFAR_EL2 are named as written and their contents are not described: free
values.  Which entries have the Instruction Fetch Barrier Effect that EIS does not switch off is in no source (R159,
R566, N19): no entry, to EL2 or elsewhere, is given it, and the bytes in `staleFetch` survive each (DESIGN CHOICE, log
entry 68). -/
def State.enterEl2 (s : State) (kind : ExcKind) (cause : ExcCause) (iss : Option (BitVec 25)) : State :=
  let ctxSync := entrySynchronizes s (s.sctlrView (slotEntry + 3))
  let errorSync := errorSyncAdded s (s.sctlrView (slotEntry + 6)) (s.draw (slotEntry + 7)) .exceptionToEl2
  let syncTags := entrySyncsTagFaults s (s.sctlrView (slotEntry + 11))
  let s1 := s.saveAndVector kind .el2 cause iss ctxSync errorSync
  let s2 := { s1 with
    pstate := s.pstateIntoEl2
    farEl2 := Config.freeDword (s.draw (slotEntry + 12))
    hpfarEl2 := Config.freeDword (s.draw (slotEntry + 13)) }
  let s3 := if syncTags then s2.syncTagFaults else s2
  if ctxSync then s3.contextSync else s3

/-- An exception to EL1 or EL3: a context synchronization event (R561). -/
def State.enterOther (s : State) (kind : ExcKind) (target : EL) (cause : ExcCause) (iss : Option (BitVec 25)) :
    State :=
  let s1 := s.saveAndVector kind target cause iss true false
  { s1 with pstate := s.pstateIntoOther target }.contextSync

/-- Taking an exception: the instruction that raised it has no other effect (R501 (1), R502).  In Debug state as in
Non-debug state (R517; DESIGN CHOICE, log entry 67). -/
def State.takeException (s : State) (kind : ExcKind) (target : EL) (cause : ExcCause) (iss : Option (BitVec 25)) :
    State :=
  match target with
  | .el2 => (s.enterEl2 kind cause iss).spendDraws
  | .el0 => (s.enterOther kind .el1 cause iss).spendDraws
  | .el1 => (s.enterOther kind .el1 cause iss).spendDraws
  | .el3 => (s.enterOther kind .el3 cause iss).spendDraws

/-- `raise SystemAccessTrap(target, 0x18)` for the instruction word `w` (R501). -/
def State.systemAccessTrap (s : State) (target : EL) (w : InstrWord) : State :=
  s.takeException .systemAccessTrap target (.ec 0x18) (some (accessIss w))

/-- `raise Undefined()` (R502): EC 0x00, with an ISS that the spec does not state. -/
def State.takeUndefined (s : State) : State := s.takeException .undefined s.undefinedTarget (.ec 0x00) none

/-- The faults of R510 that are taken as exceptions; an accumulated Tag Check Fault is recorded instead
(`State.accumulateTagFault`), and a non-fault access only reports its failure to the instruction. -/
def NamedFault.isException : NamedFault → Bool
  | .tagCheckAccumulated => false
  | .nonFaultReported => false
  | _ => true

/-- A named fault at the current instruction, taken to `target` (R510, R521).  No source states the target or the EC:
the first is the caller's, the second a free value (log entry 12). -/
def State.takeFault (s : State) (f : NamedFault) (target : EL) : State :=
  if f.isException then s.takeException .fault target (.fault f) none else s

/-- A fault of an NVMem access, taken to EL2 as that of the EL2 data access it is made as (R75). -/
def State.nvMemFault (s : State) : State := s.takeFault .nvMemAccess .el2

/-! ## The return from an exception (R160, R170, R514, R561) -/

/-- Whether TCR_EL1 governs an address stored to the PC at a level: EL1, and EL0 outside a host (R513). -/
def State.usesTcrEl1 (s : State) (el : EL) : Bool := el == .el1 || (el == .el0 && !s.host0)

/-- The return cannot be made: from EL0, to a level above the current one, or to one that is not implemented or not
using AArch64.  The return instruction's own checks are not in the sources (R514, R521; log entries 39, 63). -/
def State.returnRefused (s : State) (target : EL) : Bool :=
  s.pstate.el == .el0 || decide (s.pstate.el.code < target.code) || !s.cfg.haveEL target ||
    !s.runsA64At target

/-- An exception return from the current level: PSTATE from its SPSR, the PC from its ELR (R514 for EL2; that EL1 and
EL3 use theirs alike is log entry 39).  The implicit error synchronization event before it (R160) and the context
synchronization event that it is (R170, R561) are recorded; the second acts on the owned registers, the first on
nothing else in the model (log entry 22). -/
def State.exceptionReturn (s : State) : Host.Outcome State Fault Refusal :=
  let b := s.bank s.pstate.el
  let p := pstateOfSpsr b.spsr
  if s.returnRefused p.el then .refused .returnOutsideSpec
  else
    let errorSync :=
      errorSyncAdded s (s.sctlrView (slotReturn + 2)) (s.draw (slotReturn + 3)) .beforeExceptionReturn
    let ctxSync := isContextSync s (s.sctlrView slotReturn) (.exceptionReturn s.pstate.el)
    let s1 := { s with
      pstate := p
      pc := if s.usesTcrEl1 p.el then s.pcTarget b.elr (slotReturn + 1) else b.elr
      lastReturn := some ⟨s.pstate.el, p.el, ctxSync, errorSync⟩ }
    .next (if ctxSync then s1.contextSync else s1).spendDraws

/-! ## The course of an accessor (R507) -/

/-- The outcome of the checks of one accessor, from its ordered list: the first true condition decides. -/
inductive Access where
  /-- `raise Undefined()`. -/
  | undefined
  /-- `raise SystemAccessTrap(target, 0x18)`. -/
  | trap (target : EL)
  /-- `NVMem[offset]` (R75). -/
  | nvMem (offset : Dword)
  /-- The register, written under the mask `mask` (R195). -/
  | register (r : SysReg) (mask : Dword)
  deriving DecidableEq, Repr

/-- A completed instruction (D5). -/
def State.retire (s : State) : State := s.advancePc.spendDraws

/-- The MRS `i` with the outcome `a` of its checks. -/
def performRead (i : Instr) (a : Access) (s : State) : Host.Outcome State Fault Refusal :=
  match a with
  | .undefined => .next s.takeUndefined
  | .trap target => .next (s.systemAccessTrap target (encode i))
  | .nvMem offset =>
    .next (if s.nvMemFaults.onRead then s.nvMemFault else (s.writeX i.rt (s.nvMemRead offset)).retire)
  | .register r _ => .next ((s.orderRead r).writeX i.rt (s.readReg r)).retire

/-- The MSR `i` with the outcome `a` of its checks. -/
def performWrite (i : Instr) (a : Access) (s : State) : Host.Outcome State Fault Refusal :=
  match a with
  | .undefined => .next s.takeUndefined
  | .trap target => .next (s.systemAccessTrap target (encode i))
  | .nvMem offset =>
    .next (if s.nvMemFaults.onWrite then s.nvMemFault else (s.nvMemWrite offset (s.readX i.rt)).retire)
  | .register r m => .next (s.writeReg r (s.readX i.rt) m).retire

end Sys2Proof.Machine
end

