-- ==== Sys2Proof/Machine/HfgrtrAccess.lean ====
section
/-! DEFINITION. The accessors of HFGRTR2_EL2 (spec/43 R229, R230). -/

namespace Sys2Proof.Machine

/-- Lines 4.1 and 4.2 of R229: the EL3 control at EL2, `none` when it does not decide. -/
def fgt2El3Control (s : State) : Option Access :=
  if s.cfg.haveEL3 && s.el3SddUndefPriority && !s.scrEl3.fgten2 then some .undefined
  else if s.cfg.haveEL3 && !s.scrEl3.fgten2 then some (if s.el3SddUndef then .undefined else .trap .el3)
  else none

/-- R229 and R230: the checks of an access to HFGRTR2_EL2, the same for MRS and MSR; no write is masked. -/
def accessHfgrtr2El2 (s : State) : Access :=
  if !(s.has .FGT2 && s.has .AA64) then .undefined
  else
    match s.pstate.el with
    | .el0 => .undefined
    | .el1 => if s.nv2Active then .nvMem 0x2C0 else if s.nvTraps then .trap .el2 else .undefined
    | .el2 => (fgt2El3Control s).getD (.register .hfgrtr2El2 0)
    | .el3 => .register .hfgrtr2El2 0

/-- `MRS <Xt>, HFGRTR2_EL2` (R229). -/
def execMrsHfgrtr2El2 (rt : Nat) (s : State) : Host.Outcome State Fault Refusal :=
  performRead (.mrsHfgrtr2El2 rt) (accessHfgrtr2El2 s) s

/-- `MSR HFGRTR2_EL2, <Xt>` (R230). -/
def execMsrHfgrtr2El2 (rt : Nat) (s : State) : Host.Outcome State Fault Refusal :=
  performWrite (.msrHfgrtr2El2 rt) (accessHfgrtr2El2 s) s

end Sys2Proof.Machine
end

