-- ==== Sys2Proof/Machine/IdAccess.lean ====
section
/-! DEFINITION. The reads of the four ID registers (spec/44 R259, spec/45 R288, spec/46 R318, spec/47 R356). -/

namespace Sys2Proof.Machine

/-- The EL0 line: a read never returns the value; with FEAT_IDST it is trapped. -/
def idAccessEl0 (s : State) : Access :=
  if s.has .IDST then (if s.el2Enabled && s.hcrEl2.tge then .trap .el2 else .trap .el1) else .undefined

/-- SCR_EL3.TID3 disables the access below EL3 (with FEAT_IDTE3). -/
def idDisabledByEl3 (s : State) : Bool := s.cfg.haveEL3 && s.has .IDTE3 && s.scrEl3.tid3

/-- R259 lines 2 to 5.  `tid3Applies` is what R318 and R356 add to the HCR_EL2.TID3 line. -/
def idAccess (s : State) (tid3Applies : Bool) (r : SysReg) : Access :=
  match s.pstate.el with
  | .el0 => idAccessEl0 s
  | .el1 =>
    if s.el3SddUndefPriority && idDisabledByEl3 s then .undefined
    else if s.el2Enabled && tid3Applies && s.hcrEl2.tid3 then .trap .el2
    else if idDisabledByEl3 s then (if s.el3SddUndef then .undefined else .trap .el3)
    else .register r 0
  | .el2 =>
    if s.el3SddUndefPriority && idDisabledByEl3 s then .undefined
    else if idDisabledByEl3 s then (if s.el3SddUndef then .undefined else .trap .el3)
    else .register r 0
  | .el3 => .register r 0

/-- R259: the checks of `MRS <Xt>, ID_AA64DFR0_EL1`.  `UnimplementedIDRegister()` is mapped to UNDEFINED (D2). -/
def accessMrsIdAa64dfr0El1 (s : State) : Access :=
  if !s.has .AA64 then .undefined else idAccess s true .idAa64dfr0

/-- R288: the checks of `MRS <Xt>, ID_AA64ISAR1_EL1`. -/
def accessMrsIdAa64isar1El1 (s : State) : Access :=
  if !s.has .AA64 then .undefined else idAccess s true .idAa64isar1

/-- R318: the checks of `MRS <Xt>, ID_AA64ISAR2_EL1`. -/
def accessMrsIdAa64isar2El1 (s : State) : Access :=
  if !s.has .AA64 then .undefined
  else idAccess s (s.has .FGT || s.cfg.idAa64isar2 != 0 || s.cfg.isar2TrappedByTid3) .idAa64isar2

/-- R356: the checks of `MRS <Xt>, ID_AA64SMFR0_EL1`; there is no FEAT_AA64 line.  `IsZero` is of what the register
reads as.  Section 2.5 of 93_implementation_defined.md lists FEAT_SME absent among the conditions that make an access
UNDEFINED; R96, R330, R356 and R357(a) have no such condition, and the register then reads 0 (DEDUCED, log entry
71). -/
def accessMrsIdAa64smfr0El1 (s : State) : Access :=
  idAccess s (s.has .FGT || s.readReg .idAa64smfr0 != 0 || s.cfg.smfr0TrappedByTid3) .idAa64smfr0

/-- `MRS <Xt>, ID_AA64DFR0_EL1` (R259). -/
def execMrsIdAa64dfr0El1 (rt : Nat) (s : State) : Host.Outcome State Fault Refusal :=
  performRead (.mrsIdAa64dfr0El1 rt) (accessMrsIdAa64dfr0El1 s) s

/-- `MRS <Xt>, ID_AA64ISAR1_EL1` (R288). -/
def execMrsIdAa64isar1El1 (rt : Nat) (s : State) : Host.Outcome State Fault Refusal :=
  performRead (.mrsIdAa64isar1El1 rt) (accessMrsIdAa64isar1El1 s) s

/-- `MRS <Xt>, ID_AA64ISAR2_EL1` (R318). -/
def execMrsIdAa64isar2El1 (rt : Nat) (s : State) : Host.Outcome State Fault Refusal :=
  performRead (.mrsIdAa64isar2El1 rt) (accessMrsIdAa64isar2El1 s) s

/-- `MRS <Xt>, ID_AA64SMFR0_EL1` (R356). -/
def execMrsIdAa64smfr0El1 (rt : Nat) (s : State) : Host.Outcome State Fault Refusal :=
  performRead (.mrsIdAa64smfr0El1 rt) (accessMrsIdAa64smfr0El1 s) s

end Sys2Proof.Machine
end

