-- ==== Sys2Proof/Machine/SctlrAccess.lean ====
section
/-! DEFINITION. The accessors that reach SCTLR_EL2: the names SCTLR_EL2 and SCTLR_EL1 (spec/42 R190 to R196). -/

namespace Sys2Proof.Machine

/-- The write mask of an accessor with FEAT_SRMASK, none without (R195). -/
def State.srMask (s : State) (m : Dword) : Dword := if s.has .SRMASK then m else 0

/-- The fine-grained traps of HFGRTR_EL2 and HFGWTR_EL2 are in use (line 3.2 of R193, R479). -/
def State.fgtActive (s : State) : Bool := s.has .FGT && (!s.cfg.haveEL3 || s.scrEl3.fgten)

/-- R191: the checks of `MRS <Xt>, SCTLR_EL2`. -/
def accessMrsSctlrEl2 (s : State) : Access :=
  if !s.has .AA64 then .undefined
  else
    match s.pstate.el with
    | .el0 => .undefined
    | .el1 => if s.nvTraps then .trap .el2 else .undefined
    | .el2 => .register (.sctlrEl2 .first) 0
    | .el3 => .register (.sctlrEl2 .first) 0

/-- R192: the checks of `MSR SCTLR_EL2, <Xt>`; only a write from EL2 is masked. -/
def accessMsrSctlrEl2 (s : State) : Access :=
  if !s.has .AA64 then .undefined
  else
    match s.pstate.el with
    | .el0 => .undefined
    | .el1 => if s.nvTraps then .trap .el2 else .undefined
    | .el2 => .register (.sctlrEl2 .first) (s.srMask s.masks.sctlrEl2)
    | .el3 => .register (.sctlrEl2 .first) 0

/-- R193: the checks of `MRS <Xt>, SCTLR_EL1`. -/
def accessMrsSctlrEl1 (s : State) : Access :=
  if !s.has .AA64 then .undefined
  else
    match s.pstate.el with
    | .el0 => .undefined
    | .el1 =>
      if s.el2Enabled && s.hcrEl2.trvm then .trap .el2
      else if s.el2Enabled && s.fgtActive && s.fgt.rSctlrEl1 then .trap .el2
      else if s.nvx == 7 then .nvMem 0x110
      else .register .sctlrEl1 0
    | .el2 => if s.host2 then .register (.sctlrEl2 .second) 0 else .register .sctlrEl1 0
    | .el3 => .register .sctlrEl1 0

/-- R194: the checks of `MSR SCTLR_EL1, <Xt>`. -/
def accessMsrSctlrEl1 (s : State) : Access :=
  if !s.has .AA64 then .undefined
  else
    match s.pstate.el with
    | .el0 => .undefined
    | .el1 =>
      if s.el2Enabled && s.hcrEl2.tvm then .trap .el2
      else if s.el2Enabled && s.fgtActive && s.fgt.wSctlrEl1 then .trap .el2
      else if s.nvx == 7 then .nvMem 0x110
      else .register .sctlrEl1 (s.srMask s.masks.sctlrEl1)
    | .el2 =>
      if s.host2 then .register (.sctlrEl2 .second) (s.srMask s.masks.sctlrEl2) else .register .sctlrEl1 0
    | .el3 => .register .sctlrEl1 0

/-- `MRS <Xt>, SCTLR_EL2` (R191). -/
def execMrsSctlrEl2 (rt : Nat) (s : State) : Host.Outcome State Fault Refusal :=
  performRead (.mrsSctlrEl2 rt) (accessMrsSctlrEl2 s) s

/-- `MSR SCTLR_EL2, <Xt>` (R192). -/
def execMsrSctlrEl2 (rt : Nat) (s : State) : Host.Outcome State Fault Refusal :=
  performWrite (.msrSctlrEl2 rt) (accessMsrSctlrEl2 s) s

/-- `MRS <Xt>, SCTLR_EL1` (R193). -/
def execMrsSctlrEl1 (rt : Nat) (s : State) : Host.Outcome State Fault Refusal :=
  performRead (.mrsSctlrEl1 rt) (accessMrsSctlrEl1 s) s

/-- `MSR SCTLR_EL1, <Xt>` (R194). -/
def execMsrSctlrEl1 (rt : Nat) (s : State) : Host.Outcome State Fault Refusal :=
  performWrite (.msrSctlrEl1 rt) (accessMsrSctlrEl1 s) s

end Sys2Proof.Machine
end

