-- ==== Sys2Proof/Machine/Tcr2Access.lean ====
section
/-! DEFINITION. The accessors of TCR2_EL1: the names TCR2_EL1, TCR2_EL12 and TCR2ALIAS_EL1 (spec/48 R399 to R409). -/

namespace Sys2Proof.Machine

/-- Line 1 of every TCR2_EL1 accessor. -/
def tcr2Absent (s : State) : Bool := !(s.has .TCR2 && s.has .AA64)

/-- SCR_EL3.TCR2En disables the access below EL3. -/
def tcr2DisabledByEl3 (s : State) : Bool := s.cfg.haveEL3 && !s.scrEl3.tcr2en

/-- The EL1 lines 3.1 to 3.7 of R400, R401, R407 and R408: `vmTrap` is HCR_EL2.TRVM or TVM, `fineTrap` the condition
of line 3.3 after `EL2Enabled() and`, `mask` that of line 3.7.  Line 3.3 of R400 uses the fine-grained trap bit
named TCR_EL1. -/
def tcr2AccessEl1 (s : State) (vmTrap fineTrap : Bool) (r : SysReg) (mask : Dword) : Access :=
  if s.el3SddUndefPriority && tcr2DisabledByEl3 s then .undefined
  else if s.el2Enabled && vmTrap then .trap .el2
  else if s.el2Enabled && fineTrap then .trap .el2
  else if s.el2Enabled && !s.hcrxTcr2En then .trap .el2
  else if tcr2DisabledByEl3 s then (if s.el3SddUndef then .undefined else .trap .el3)
  else if s.nvx == 7 then .nvMem 0x270
  else .register r mask

/-- The EL2 lines 4.1 to 4.4. -/
def tcr2AccessEl2 (s : State) (r : SysReg) (maskEl2 : Dword) : Access :=
  if s.el3SddUndefPriority && tcr2DisabledByEl3 s then .undefined
  else if tcr2DisabledByEl3 s then (if s.el3SddUndef then .undefined else .trap .el3)
  else if s.host2 then .register .tcr2El2 maskEl2
  else .register r 0

/-- Line 3.3 of R408 and line 3.2 of R484: the write trap of an ALIAS name; a 0 bit traps. -/
def aliasWriteTrap (s : State) (notTrapped : Bool) : Bool :=
  s.has .FGT2 && ((s.cfg.haveEL3 && !s.scrEl3.fgten2) || !notTrapped)

/-- R400: the checks of `MRS <Xt>, TCR2_EL1`. -/
def accessMrsTcr2El1 (s : State) : Access :=
  if tcr2Absent s then .undefined
  else
    match s.pstate.el with
    | .el0 => .undefined
    | .el1 => tcr2AccessEl1 s s.hcrEl2.trvm (s.fgtActive && s.fgt.rTcrEl1) (.tcr2El1 .first) 0
    | .el2 => tcr2AccessEl2 s (.tcr2El1 .first) 0
    | .el3 => .register (.tcr2El1 .first) 0

/-- R401: the checks of `MSR TCR2_EL1, <Xt>`. -/
def accessMsrTcr2El1 (s : State) : Access :=
  if tcr2Absent s then .undefined
  else
    match s.pstate.el with
    | .el0 => .undefined
    | .el1 =>
      tcr2AccessEl1 s s.hcrEl2.tvm (s.fgtActive && s.fgt.wTcrEl1) (.tcr2El1 .first) (s.srMask s.masks.tcr2El1)
    | .el2 => tcr2AccessEl2 s (.tcr2El1 .first) (s.srMask s.masks.tcr2El2)
    | .el3 => .register (.tcr2El1 .first) 0

/-- R402 and R403: the checks of an access under the name TCR2_EL12, the same for MRS and MSR; without FEAT_VHE it is
UNDEFINED at every level (D12), and no write is masked. -/
def accessTcr2El12 (s : State) : Access :=
  if tcr2Absent s || !s.has .VHE then .undefined
  else
    match s.pstate.el with
    | .el0 => .undefined
    | .el1 => if s.nvx == 5 then .nvMem 0x270 else if s.nvTraps then .trap .el2 else .undefined
    | .el2 =>
      if s.host2 then
        if s.el3SddUndefPriority && tcr2DisabledByEl3 s then .undefined
        else if tcr2DisabledByEl3 s then (if s.el3SddUndef then .undefined else .trap .el3)
        else .register (.tcr2El1 .second) 0
      else .undefined
    | .el3 => if s.host2 then .register (.tcr2El1 .second) 0 else .undefined

/-- R407: the checks of `MRS <Xt>, TCR2ALIAS_EL1`; UNDEFINED without FEAT_SRMASK (D12). -/
def accessMrsTcr2aliasEl1 (s : State) : Access :=
  if tcr2Absent s || !s.has .SRMASK then .undefined
  else
    match s.pstate.el with
    | .el0 => .undefined
    | .el1 => tcr2AccessEl1 s s.hcrEl2.trvm (s.aliasReadTrapped .tcr2alias) (.tcr2El1 .unpaired) 0
    | .el2 => tcr2AccessEl2 s (.tcr2El1 .unpaired) 0
    | .el3 => .register (.tcr2El1 .unpaired) 0

/-- R408: the checks of `MSR TCR2ALIAS_EL1, <Xt>`. -/
def accessMsrTcr2aliasEl1 (s : State) : Access :=
  if tcr2Absent s || !s.has .SRMASK then .undefined
  else
    match s.pstate.el with
    | .el0 => .undefined
    | .el1 =>
      tcr2AccessEl1 s s.hcrEl2.tvm (aliasWriteTrap s s.fgt.wnTcr2aliasEl1) (.tcr2El1 .unpaired)
        (s.srMask s.masks.tcr2El1)
    | .el2 => tcr2AccessEl2 s (.tcr2El1 .unpaired) (s.srMask s.masks.tcr2El2)
    | .el3 => .register (.tcr2El1 .unpaired) 0

/-- `MRS <Xt>, TCR2_EL1` (R400). -/
def execMrsTcr2El1 (rt : Nat) (s : State) : Host.Outcome State Fault Refusal :=
  performRead (.mrsTcr2El1 rt) (accessMrsTcr2El1 s) s

/-- `MSR TCR2_EL1, <Xt>` (R401). -/
def execMsrTcr2El1 (rt : Nat) (s : State) : Host.Outcome State Fault Refusal :=
  performWrite (.msrTcr2El1 rt) (accessMsrTcr2El1 s) s

/-- `MRS <Xt>, TCR2_EL12` (R402). -/
def execMrsTcr2El12 (rt : Nat) (s : State) : Host.Outcome State Fault Refusal :=
  performRead (.mrsTcr2El12 rt) (accessTcr2El12 s) s

/-- `MSR TCR2_EL12, <Xt>` (R403). -/
def execMsrTcr2El12 (rt : Nat) (s : State) : Host.Outcome State Fault Refusal :=
  performWrite (.msrTcr2El12 rt) (accessTcr2El12 s) s

/-- `MRS <Xt>, TCR2ALIAS_EL1` (R407). -/
def execMrsTcr2aliasEl1 (rt : Nat) (s : State) : Host.Outcome State Fault Refusal :=
  performRead (.mrsTcr2aliasEl1 rt) (accessMrsTcr2aliasEl1 s) s

/-- `MSR TCR2ALIAS_EL1, <Xt>` (R408). -/
def execMsrTcr2aliasEl1 (rt : Nat) (s : State) : Host.Outcome State Fault Refusal :=
  performWrite (.msrTcr2aliasEl1 rt) (accessMsrTcr2aliasEl1 s) s

end Sys2Proof.Machine
end

