-- ==== Sys2Proof/Machine/TcrAccess.lean ====
section
/-! DEFINITION. The accessors of TCR_EL1: the names TCR_EL1, TCR_EL12 and TCRALIAS_EL1 (spec/49 R478 to R485). -/

namespace Sys2Proof.Machine

/-- The EL1 lines of R479, R480, R483 and R484, as for TCR2_EL1 without the EL3 and HCRX_EL2 controls. -/
def tcrAccessEl1 (s : State) (vmTrap fineTrap : Bool) (r : SysReg) (mask : Dword) : Access :=
  if s.el2Enabled && vmTrap then .trap .el2
  else if s.el2Enabled && fineTrap then .trap .el2
  else if s.nvx == 7 then .nvMem 0x120
  else .register r mask

/-- Line 4: at EL2 the name reaches TCR_EL2 in host, TCR_EL1 otherwise; only the former write is masked. -/
def tcrAccessEl2 (s : State) (r : SysReg) (maskEl2 : Dword) : Access :=
  if s.host2 then .register .tcrEl2 maskEl2 else .register r 0

/-- R479: the checks of `MRS <Xt>, TCR_EL1`. -/
def accessMrsTcrEl1 (s : State) : Access :=
  if !s.has .AA64 then .undefined
  else
    match s.pstate.el with
    | .el0 => .undefined
    | .el1 => tcrAccessEl1 s s.hcrEl2.trvm (s.fgtActive && s.fgt.rTcrEl1) (.tcrEl1 .first) 0
    | .el2 => tcrAccessEl2 s (.tcrEl1 .first) 0
    | .el3 => .register (.tcrEl1 .first) 0

/-- R480: the checks of `MSR TCR_EL1, <Xt>`. -/
def accessMsrTcrEl1 (s : State) : Access :=
  if !s.has .AA64 then .undefined
  else
    match s.pstate.el with
    | .el0 => .undefined
    | .el1 =>
      tcrAccessEl1 s s.hcrEl2.tvm (s.fgtActive && s.fgt.wTcrEl1) (.tcrEl1 .first) (s.srMask s.masks.tcrEl1)
    | .el2 => tcrAccessEl2 s (.tcrEl1 .first) (s.srMask s.masks.tcrEl2)
    | .el3 => .register (.tcrEl1 .first) 0

/-- R481 and R482: the checks of an access under the name TCR_EL12, the same for MRS and MSR; without FEAT_VHE it is
UNDEFINED at every level (D12), and no write is masked. -/
def accessTcrEl12 (s : State) : Access :=
  if !s.has .AA64 || !s.has .VHE then .undefined
  else
    match s.pstate.el with
    | .el0 => .undefined
    | .el1 => if s.nvx == 5 then .nvMem 0x120 else if s.nvTraps then .trap .el2 else .undefined
    | .el2 => if s.host2 then .register (.tcrEl1 .second) 0 else .undefined
    | .el3 => if s.host2 then .register (.tcrEl1 .second) 0 else .undefined

/-- R483: the checks of `MRS <Xt>, TCRALIAS_EL1`; UNDEFINED without FEAT_SRMASK (D12). -/
def accessMrsTcraliasEl1 (s : State) : Access :=
  if !s.has .AA64 || !s.has .SRMASK then .undefined
  else
    match s.pstate.el with
    | .el0 => .undefined
    | .el1 => tcrAccessEl1 s s.hcrEl2.trvm (s.aliasReadTrapped .tcralias) (.tcrEl1 .unpaired) 0
    | .el2 => tcrAccessEl2 s (.tcrEl1 .unpaired) 0
    | .el3 => .register (.tcrEl1 .unpaired) 0

/-- R484: the checks of `MSR TCRALIAS_EL1, <Xt>`. -/
def accessMsrTcraliasEl1 (s : State) : Access :=
  if !s.has .AA64 || !s.has .SRMASK then .undefined
  else
    match s.pstate.el with
    | .el0 => .undefined
    | .el1 =>
      tcrAccessEl1 s s.hcrEl2.tvm (aliasWriteTrap s s.fgt.wnTcraliasEl1) (.tcrEl1 .unpaired)
        (s.srMask s.masks.tcrEl1)
    | .el2 => tcrAccessEl2 s (.tcrEl1 .unpaired) (s.srMask s.masks.tcrEl2)
    | .el3 => .register (.tcrEl1 .unpaired) 0

/-- `MRS <Xt>, TCR_EL1` (R479). -/
def execMrsTcrEl1 (rt : Nat) (s : State) : Host.Outcome State Fault Refusal :=
  performRead (.mrsTcrEl1 rt) (accessMrsTcrEl1 s) s

/-- `MSR TCR_EL1, <Xt>` (R480). -/
def execMsrTcrEl1 (rt : Nat) (s : State) : Host.Outcome State Fault Refusal :=
  performWrite (.msrTcrEl1 rt) (accessMsrTcrEl1 s) s

/-- `MRS <Xt>, TCR_EL12` (R481). -/
def execMrsTcrEl12 (rt : Nat) (s : State) : Host.Outcome State Fault Refusal :=
  performRead (.mrsTcrEl12 rt) (accessTcrEl12 s) s

/-- `MSR TCR_EL12, <Xt>` (R482). -/
def execMsrTcrEl12 (rt : Nat) (s : State) : Host.Outcome State Fault Refusal :=
  performWrite (.msrTcrEl12 rt) (accessTcrEl12 s) s

/-- `MRS <Xt>, TCRALIAS_EL1` (R483). -/
def execMrsTcraliasEl1 (rt : Nat) (s : State) : Host.Outcome State Fault Refusal :=
  performRead (.mrsTcraliasEl1 rt) (accessMrsTcraliasEl1 s) s

/-- `MSR TCRALIAS_EL1, <Xt>` (R484). -/
def execMsrTcraliasEl1 (rt : Nat) (s : State) : Host.Outcome State Fault Refusal :=
  performWrite (.msrTcraliasEl1 rt) (accessMsrTcraliasEl1 s) s

end Sys2Proof.Machine
end

