-- ==== Sys2Proof/Machine/Dispatch.lean ====
section
/-! DEFINITION. One arm per accessor of spec/30_encoding.md R93. -/

namespace Sys2Proof.Machine

def exec (i : Instr) (s : State) : Host.Outcome State Fault Refusal :=
  match i with
  | .mrsSctlrEl2 rt => Sys2Proof.Machine.execMrsSctlrEl2 rt s
  | .msrSctlrEl2 rt => Sys2Proof.Machine.execMsrSctlrEl2 rt s
  | .mrsSctlrEl1 rt => Sys2Proof.Machine.execMrsSctlrEl1 rt s
  | .msrSctlrEl1 rt => Sys2Proof.Machine.execMsrSctlrEl1 rt s
  | .mrsHfgrtr2El2 rt => Sys2Proof.Machine.execMrsHfgrtr2El2 rt s
  | .msrHfgrtr2El2 rt => Sys2Proof.Machine.execMsrHfgrtr2El2 rt s
  | .mrsIdAa64dfr0El1 rt => Sys2Proof.Machine.execMrsIdAa64dfr0El1 rt s
  | .mrsIdAa64isar1El1 rt => Sys2Proof.Machine.execMrsIdAa64isar1El1 rt s
  | .mrsIdAa64isar2El1 rt => Sys2Proof.Machine.execMrsIdAa64isar2El1 rt s
  | .mrsIdAa64smfr0El1 rt => Sys2Proof.Machine.execMrsIdAa64smfr0El1 rt s
  | .mrsTcr2El1 rt => Sys2Proof.Machine.execMrsTcr2El1 rt s
  | .msrTcr2El1 rt => Sys2Proof.Machine.execMsrTcr2El1 rt s
  | .mrsTcr2El12 rt => Sys2Proof.Machine.execMrsTcr2El12 rt s
  | .msrTcr2El12 rt => Sys2Proof.Machine.execMsrTcr2El12 rt s
  | .mrsTcr2aliasEl1 rt => Sys2Proof.Machine.execMrsTcr2aliasEl1 rt s
  | .msrTcr2aliasEl1 rt => Sys2Proof.Machine.execMsrTcr2aliasEl1 rt s
  | .mrsTcrEl1 rt => Sys2Proof.Machine.execMrsTcrEl1 rt s
  | .msrTcrEl1 rt => Sys2Proof.Machine.execMsrTcrEl1 rt s
  | .mrsTcrEl12 rt => Sys2Proof.Machine.execMrsTcrEl12 rt s
  | .msrTcrEl12 rt => Sys2Proof.Machine.execMsrTcrEl12 rt s
  | .mrsTcraliasEl1 rt => Sys2Proof.Machine.execMrsTcraliasEl1 rt s
  | .msrTcraliasEl1 rt => Sys2Proof.Machine.execMsrTcraliasEl1 rt s

end Sys2Proof.Machine
end

