-- ==== Sys2Proof/Machine/Fetch.lean ====
section
/-! DEFINITION. Fetching an instruction (spec/20 R61, R70, R79) and what becomes of a word that is no accessor of
the opcode map (spec/30 R96, R97, D14). -/

namespace Sys2Proof.Machine

/-- The bytes a fetch may still see at an address because a store replaced them and no instruction cache maintenance
followed (R79). -/
def State.staleBytesAt (s : State) (a : Nat) : List Byte :=
  (s.staleFetch.filter fun c => c.1 == a).map (·.2)

/-- The address of byte `k` of the instruction at the PC. -/
def State.fetchAddress (s : State) (k : Nat) : Nat := (s.pc + BitVec.ofNat 64 k).toNat

/-- Byte `k` of the instruction at the PC as the fetch sees it. -/
def State.fetchByte (s : State) (k : Nat) : Byte :=
  chooseAmong (s.byteAt (s.fetchAddress k)) (s.staleBytesAt (s.fetchAddress k))
    (Config.freeChoice (s.draw (slotFetch + k)))

/-- The four bytes at the PC. -/
def State.fetchBytes (s : State) : List Byte := [s.fetchByte 0, s.fetchByte 1, s.fetchByte 2, s.fetchByte 3]

/-- R70: A64 instructions are 4-byte aligned. -/
def State.pcAligned (s : State) : Bool := s.pc.extractLsb' 0 2 == 0

/-- An MRS or MSR of the IMPLEMENTATION DEFINED registers (R97): SCTLR_EL2.TIDCP may trap it from EL0 (R120 (iii));
the spec gives no other meaning, and refuses it. -/
def execImplementationDefined (w : InstrWord) (s : State) : Host.Outcome State Fault Refusal :=
  if trapTidcp s (s.sctlrView slotTidcp) (.mrsMsr (wordCoordinate w).crn.toNat) then
    .next (s.systemAccessTrap .el2 w)
  else .refused (.implementationDefinedRegister w)

/-- The MSR word of a read-only ID register is UNDEFINED (R96, D14). -/
def execReadOnlyWrite (s : State) : Host.Outcome State Fault Refusal := .next s.takeUndefined

/-- The same instruction stored where the next step fetches: bits as in spec/opcode_table.json, in little-endian bytes
at the PC, with no older byte left for the fetch there. -/
def State.placeWord (s : State) (w : InstrWord) : State :=
  let addresses := [s.fetchAddress 0, s.fetchAddress 1, s.fetchAddress 2, s.fetchAddress 3]
  { s with
    mem := s.mem.writeBytes addresses (bytesOfWord w)
    staleFetch := s.staleFetch.filter fun c => !addresses.contains c.1 }

end Sys2Proof.Machine
end

