-- ==== Sys2Proof/Machine/Step.lean ====
section
/-! DEFINITION. One step of the PE: fetch at the PC, decode (spec/30_encoding.md R95), run. -/

namespace Sys2Proof.Machine

/-- What a decoded word does. -/
def run (d : Decoded) (s : State) : Host.Outcome State Fault Refusal :=
  match d with
  | .instr i => exec i s
  | .readOnlyWrite _ => execReadOnlyWrite s
  | .implementationDefined w => execImplementationDefined w s
  | .otherRegister w => .refused (.registerOutsideSpec w)
  | .notSysMove w => .refused (.instructionOutsideSpec w)
  | .truncated => .refused (.instructionOutsideSpec 0)

/-- One step.  A PE in Debug state is stepped as one in Non-debug state: halting and the external debug interface are
not in the sources (R517), which name the guards of R509 as the only effect of Debug state on an accessor, so it
fetches at the PC and takes its exceptions at the vector (DESIGN CHOICE, log entry 67). -/
def step (s : State) : Host.Outcome State Fault Refusal :=
  if s.pcAligned then run (decode s.fetchBytes) s else .fault .pcAlignment

/-- `s` with the instruction word `w` (its low `nbits` bits) where `step` fetches next. -/
def State.withFetchWord (s : State) (nbits w : Nat) : State := s.placeWord (BitVec.ofNat 32 (w % 2 ^ nbits))

end Sys2Proof.Machine
end

