-- ==== Sys2Proof/Machine/IdRegisters.lean ====
section
/-! DEFINITION. The four ID registers (spec/44 to spec/47): their fields, what a configuration constant may be (R242),
and how it is tied to the feature set (R25). -/

namespace Sys2Proof.Machine

/-- One field of an ID register: its place, the values the rule lists, the values that a "not permitted" or "permitted
values" sentence excludes on this configuration, and the features that "implement the functionality" of some of the
values. -/
structure IdField where
  name      : String
  lo        : Nat
  width     : Nat
  listed    : List Nat
  excluded  : List Nat
  ties      : List (Feature × List Nat)
  deriving DecidableEq, Repr

/-- The field's value. -/
def IdField.value (f : IdField) (v : Dword) : Nat := fieldAt v f.lo f.width

/-- The value is one that the field rule allows: listed, not excluded, and every tied feature is implemented exactly
when the value is one of its values (R25, R242; reserved values never occur, D10). -/
def IdField.legal (c : Config) (f : IdField) (v : Dword) : Bool :=
  f.listed.contains (f.value v) && !f.excluded.contains (f.value v) &&
    f.ties.all fun t => c.has t.1 == t.2.contains (f.value v)

/-- Values excluded under a condition. -/
def excludedIf (cond : Bool) (values : List Nat) : List Nat := if cond then values else []

/-- "From Armv<major>.<minor>" (R242). -/
def fromArch (c : Config) (major minor : Nat) : Bool := c.archVersion.atLeast major minor

/-- "In Armv<major>.<minor>": of that version alone, so a version between the "In" and the "From" of a rule is under
neither (R249, R285, R286, R314; DEDUCED, log entry 61). -/
def inArch (c : Config) (major minor : Nat) : Bool := c.archVersion == ⟨major, minor⟩

/-! ## ID_AA64DFR0_EL1 (R241 to R258) -/

/-- The fields of ID_AA64DFR0_EL1, from bit 63 down. -/
def dfr0Fields (c : Config) : List IdField :=
  [
   -- R243
   ⟨"HPMN0", 60, 4, [0, 1],
      excludedIf (fromArch c 8 8 && c.has .PMUv3 && c.has .FGT && c.haveEL2) [0],
      [(.HPMN0, [1])]⟩,
   -- R244
   ⟨"ExtTrcBuff", 56, 4, [0, 1], [], [(.TRBE_EXT, [1])]⟩,
   -- R245
   ⟨"BRBE", 52, 4, [0, 1, 2], excludedIf (fromArch c 9 3 && c.has .BRBE) [1], [(.BRBE, [1, 2]), (.BRBEv1p1, [2])]⟩,
   -- R246
   ⟨"MTPMU", 48, 4, [0, 1, 15],
      excludedIf (fromArch c 8 6 && c.has .PMUv3) [0] ++
      excludedIf (!c.has .PMUv3) [1],
      [(.MTPMU, [1])]⟩,
   -- R247
   ⟨"TraceBuffer", 44, 4, [0, 1, 2],
      excludedIf (c.archVersion.major == 9 && c.has .ETE) [0] ++
      excludedIf (fromArch c 9 6 && c.has .TRBE) [1],
      [(.TRBE, [1, 2]), (.TRBEv1p1, [2]), (.TRBE_EXC, [2])]⟩,
   -- R248
   ⟨"TraceFilt", 40, 4, [0, 1],
      excludedIf (fromArch c 8 4 && c.has .ETMv4) [0] ++
      excludedIf (c.has .ETE) [0],
      [(.TRF, [1])]⟩,
   -- R249
   ⟨"DoubleLock", 36, 4, [0, 15],
      excludedIf (inArch c 8 0) [15] ++
      excludedIf (c.has .DoPD) [0],
      [(.DoubleLock, [0])]⟩,
   -- R250
   ⟨"PMSVer", 32, 4, [0, 1, 2, 3, 4, 5, 6],
      excludedIf (fromArch c 8 5 && c.has .SPE) [1] ++
      excludedIf (fromArch c 8 7 && c.has .SPE) [2] ++
      excludedIf (fromArch c 8 8 && c.has .SPE) [3] ++
      excludedIf (fromArch c 8 9 && c.has .SPE) [4] ++
      excludedIf (fromArch c 9 6 && c.has .SPE) [5],
      [(.SPE, [1, 2, 3, 4, 5, 6]),
       (.SPEv1p1, [2, 3, 4, 5, 6]),
       (.SPEv1p2, [3, 4, 5, 6]),
       (.SPEv1p3, [4, 5, 6]),
       (.SPEv1p4, [5, 6]),
       (.SPEv1p5, [6]),
       (.SPE_EXC, [6]),
       (.SPE_nVM, [6])]⟩,
   -- R251
   ⟨"CTX_CMPs", 28, 4, List.range 16, [], []⟩,
   -- R252
   ⟨"SEBEP", 24, 4, [0, 1], [], [(.SEBEP, [1])]⟩,
   -- R253
   ⟨"WRPs", 20, 4, List.range 16, [0], []⟩,
   -- R254
   ⟨"PMSS", 16, 4, [0, 1], [], [(.PMUv3_SS, [1])]⟩,
   -- R255
   ⟨"BRPs", 12, 4, List.range 16, [0], []⟩,
   -- R256
   ⟨"PMUVer", 8, 4, [0, 1, 4, 5, 6, 7, 8, 9, 15],
      excludedIf (fromArch c 8 1 && c.has .PMUv3) [1] ++
      excludedIf (fromArch c 8 4 && c.has .PMUv3) [4] ++
      excludedIf (fromArch c 8 5 && c.has .PMUv3) [5] ++
      excludedIf (fromArch c 8 7 && c.has .PMUv3) [6] ++
      excludedIf (fromArch c 8 8 && c.has .PMUv3) [7] ++
      excludedIf (fromArch c 8 9 && c.has .PMUv3) [8],
      [(.PMUv3, [1, 4, 5, 6, 7, 8, 9]),
       (.PMUv3p1, [4, 5, 6, 7, 8, 9]),
       (.PMUv3p4, [5, 6, 7, 8, 9]),
       (.PMUv3p5, [6, 7, 8, 9]),
       (.PMUv3p7, [7, 8, 9]),
       (.PMUv3p8, [8, 9]),
       (.PMUv3p9, [9])]⟩,
   -- R257
   ⟨"TraceVer", 4, 4, [0, 1], [], []⟩,
   -- R258: no value is said to include a smaller one, so each feature is tied to its own value alone (R25)
   ⟨"DebugVer", 0, 4, [6, 7, 8, 9, 10, 11],
      excludedIf (fromArch c 8 1 && c.has .Debugv8p1) [6] ++
      excludedIf (fromArch c 8 2) [6, 7] ++
      excludedIf (fromArch c 8 4) [8] ++
      excludedIf (fromArch c 8 8) [9] ++
      excludedIf (fromArch c 8 9) [10],
      [(.Debugv8p1, [7]), (.Debugv8p2, [8]), (.Debugv8p4, [9]), (.Debugv8p8, [10]), (.Debugv8p9, [11])]⟩]

/-- A field of a register by name; 0 if there is none. -/
def idFieldValue (fields : List IdField) (name : String) (v : Dword) : Nat :=
  match fields.find? (fun f => f.name == name) with
  | some f => f.value v
  | none => 0

/-- R251: the number of context-aware breakpoints. -/
def contextBreakpoints (c : Config) : Nat :=
  let n := fieldAt c.idAa64dfr0 28 4
  if n < 15 then n + 1 else c.cross.dfr1CtxCmps.getD 16

/-- R253: the number of watchpoints; with FEAT_Debugv8p9 the value 0b1111 leaves it to ID_AA64DFR1_EL1.WRPs, whatever
that field holds: 0 has no meaning of its own in the rule. -/
def watchpoints (c : Config) : Nat :=
  let n := fieldAt c.idAa64dfr0 20 4
  if n = 15 && c.has .Debugv8p9 then c.cross.dfr1Wrps else n + 1

/-- R255: the number of breakpoints. -/
def breakpoints (c : Config) : Nat := c.cross.dfr1Brps.getD (fieldAt c.idAa64dfr0 12 4 + 1)

/-- R255: BRPs is the index of the highest numbered context-aware breakpoint, the last one when ID_AA64DFR1_EL1.BRPs
is 0; with more than 16 context-aware breakpoints and BRPs 0b1111 they are the lowest numbered. -/
def lowestContextAware (c : Config) : Nat :=
  let top := fieldAt c.idAa64dfr0 12 4
  if top = 15 && 16 < contextBreakpoints c then 0 else top + 1 - contextBreakpoints c

/-- Breakpoint `b` is context-aware: the context-aware breakpoints are a run of consecutive numbers (DEDUCED from "the
highest numbered" and "the lowest numbered", log entry 54). -/
def isContextAware (c : Config) (b : Nat) : Bool :=
  decide (b < breakpoints c) && decide (lowestContextAware c ≤ b) &&
    decide (b < lowestContextAware c + contextBreakpoints c)

/-- R256: a PMUv3 version is recognised by its listed values, never by comparing with 0b1111. -/
def pmuV3 (c : Config) : Bool := [1, 4, 5, 6, 7, 8, 9].contains (fieldAt c.idAa64dfr0 8 4)

/-- R258. -/
def debugVersion (c : Config) : Nat := fieldAt c.idAa64dfr0 0 4

/-- What R251, R253 and R255 say of the numbers of breakpoints and watchpoints: CTX_CMPs is no greater than BRPs; a
nonzero ID_AA64DFR1_EL1.CTX_CMPs indicates 16 or more; with FEAT_Debugv8p9, 0b1111 stands for 16 or more
watchpoints; BRPs is less than the number of breakpoints; the context-aware breakpoints are some of the breakpoints;
and with AArch32 at EL1 there are no more than 16 breakpoints or watchpoints. -/
def debugCountsLegal (c : Config) : Bool :=
  decide (fieldAt c.idAa64dfr0 28 4 ≤ fieldAt c.idAa64dfr0 12 4) &&
    (fieldAt c.idAa64dfr0 28 4 != 15 || decide (16 ≤ contextBreakpoints c)) &&
    (fieldAt c.idAa64dfr0 20 4 != 15 || decide (16 ≤ watchpoints c)) &&
    decide (fieldAt c.idAa64dfr0 12 4 < breakpoints c) && decide (contextBreakpoints c ≤ breakpoints c) &&
    (!c.cross.aarch32El1 || (decide (breakpoints c ≤ 16) && decide (watchpoints c ≤ 16)))

/-- The constant obeys R243 to R258. -/
def dfr0Legal (c : Config) : Bool :=
  (dfr0Fields c).all (fun f => f.legal c c.idAa64dfr0) && debugCountsLegal c

/-! ## ID_AA64ISAR1_EL1 (R271 to R287) -/

/-- R285, R286, R314: the values of API, APA and APA3 that the architecture version does not permit.  Of a version
after Armv8.3 and before Armv8.6 (Armv8.4, Armv8.5, Armv9.0) the rules say nothing, and nothing is excluded there, not
even 0b0110 (DEDUCED, log entry 61). -/
def pacExcluded (c : Config) : List Nat :=
  if fromArch c 9 5 then [1, 2] else if fromArch c 8 6 then [1, 2, 6] else if inArch c 8 3 then [6] else []

/-- "Advanced SIMD or floating-point is implemented" (R283, R284). -/
def simdOrFloat (c : Config) : Bool := c.has .AdvSIMD || c.cross.floatingPoint

/-- The fields of ID_AA64ISAR1_EL1, from bit 63 down. -/
def isar1Fields (c : Config) : List IdField :=
  [
   -- R272; "From Armv9.6, the value 0b0011 is not permitted" is quoted in 00_scope.md section 1
   ⟨"LS64", 60, 4, [0, 1, 2, 3, 4],
      excludedIf (fromArch c 9 6) [3],
      [(.LS64, [1, 2, 3, 4]), (.LS64_V, [2, 3, 4]), (.LS64_ACCDATA, [3, 4]), (.LS64WB, [4])]⟩,
   -- R273
   ⟨"XS", 56, 4, [0, 1], excludedIf (fromArch c 8 7) [0], [(.XS, [1])]⟩,
   -- R274
   ⟨"I8MM", 52, 4, [0, 1],
      excludedIf (fromArch c 8 6) [0] ++
      excludedIf (c.has .AdvSIMD && c.has .SVE) ([0, 1].filter fun n => n != c.cross.zfr0I8mm),
      [(.I8MM, [1])]⟩,
   -- R275
   ⟨"DGH", 48, 4, [0, 1], excludedIf c.cross.dghNoEffect [1], [(.DGH, [1])]⟩,
   -- R276
   ⟨"BF16", 44, 4, [0, 1, 2],
      excludedIf (fromArch c 8 6) [0] ++
      excludedIf (c.has .SVE || c.has .SME) ([0, 1, 2].filter fun n => n != c.cross.zfr0Bf16),
      [(.BF16, [1, 2]), (.EBF16, [2])]⟩,
   -- R277
   ⟨"SPECRES", 40, 4, [0, 1, 2],
      excludedIf (fromArch c 8 5) [0] ++
      excludedIf (fromArch c 8 9) [1],
      [(.SPECRES, [1, 2]), (.SPECRES2, [2])]⟩,
   -- R278
   ⟨"SB", 36, 4, [0, 1], excludedIf (fromArch c 8 5) [0], [(.SB, [1])]⟩,
   -- R279
   ⟨"FRINTTS", 32, 4, [0, 1], excludedIf (fromArch c 8 5) [0], [(.FRINTTS, [1])]⟩,
   -- R280
   ⟨"GPI", 28, 4, [0, 1], [], []⟩,
   -- R281
   ⟨"GPA", 24, 4, [0, 1], [], [(.PACQARMA5, [1])]⟩,
   -- R282
   ⟨"LRCPC", 20, 4, [0, 1, 2, 3],
      excludedIf (fromArch c 8 3) [0] ++
      excludedIf (fromArch c 8 4) [1],
      [(.LRCPC, [1, 2, 3]), (.LRCPC2, [2, 3]), (.LRCPC3, [3])]⟩,
   -- R283
   ⟨"FCMA", 16, 4, [0, 1], excludedIf (fromArch c 8 3) [if simdOrFloat c then 0 else 1], [(.FCMA, [1])]⟩,
   -- R284
   ⟨"JSCVT", 12, 4, [0, 1], excludedIf (fromArch c 8 3) [if simdOrFloat c then 0 else 1], [(.JSCVT, [1])]⟩,
   -- R285
   ⟨"API", 8, 4, [0, 1, 2, 3, 4, 5, 6], pacExcluded c, []⟩,
   -- R286
   ⟨"APA", 4, 4, [0, 1, 2, 3, 4, 5, 6], pacExcluded c, []⟩,
   -- R287
   ⟨"DPB", 0, 4, [0, 1, 2],
      excludedIf (fromArch c 8 2) [0] ++
      excludedIf (fromArch c 8 5) [1],
      [(.DPB, [1, 2]), (.DPB2, [2])]⟩]

/-! ## ID_AA64ISAR2_EL1 (R301 to R317) -/

/-- The fields of ID_AA64ISAR2_EL1, from bit 63 down. -/
def isar2Fields (c : Config) : List IdField :=
  [
   -- R302
   ⟨"ATS1A", 60, 4, [0, 1], [], []⟩,
   -- R303
   ⟨"LUT", 56, 4, [0, 1], excludedIf (fromArch c 9 5 && c.has .AdvSIMD) [0], [(.LUT, [1])]⟩,
   -- R304
   ⟨"CSSC", 52, 4, [0, 1, 2],
      excludedIf (fromArch c 9 4) [0] ++
      excludedIf (fromArch c 9 6) [1],
      [(.CSSC, [1, 2]), (.CMPBR, [2])]⟩,
   -- R305
   ⟨"RPRFM", 48, 4, [0, 1], [], [(.RPRFM, [1])]⟩,
   -- R306; other values reserved by D10
   ⟨"PCDPHINT", 44, 4, [0, 1], [], [(.PCDPHINT, [1])]⟩,
   -- R307
   ⟨"PRFMSLC", 40, 4, [0, 1], [], [(.PRFMSLC, [1])]⟩,
   -- R308
   ⟨"SYSINSTR_128", 36, 4, [0, 1], [], [(.SYSINSTR128, [1])]⟩,
   -- R309
   ⟨"SYSREG_128", 32, 4, [0, 1], [], [(.SYSREG128, [1])]⟩,
   -- R310
   ⟨"CLRBHB", 28, 4, [0, 1], excludedIf (fromArch c 8 9) [0], [(.CLRBHB, [1])]⟩,
   -- R311
   ⟨"PAC_frac", 24, 4, [0, 1], [], [(.CONSTPACFIELD, [1])]⟩,
   -- R312
   ⟨"BC", 20, 4, [0, 1], excludedIf (fromArch c 8 8) [0], [(.HBC, [1])]⟩,
   -- R313
   ⟨"MOPS", 16, 4, [0, 1], excludedIf (fromArch c 8 8) [0], [(.MOPS, [1])]⟩,
   -- R314
   ⟨"APA3", 12, 4, [0, 1, 2, 3, 4, 5, 6], pacExcluded c, []⟩,
   -- R315
   ⟨"GPA3", 8, 4, [0, 1], [], [(.PACQARMA3, [1])]⟩,
   -- R316
   ⟨"RPRES", 4, 4, [0, 1], [], [(.RPRES, [1])]⟩,
   -- R317
   ⟨"WFxT", 0, 4, [0, 2], excludedIf (fromArch c 8 7) [0], [(.WFxT, [2])]⟩]

/-- R285, R286, R314: at most one of API, APA and APA3 is nonzero; the features of its value. -/
def pacAddressLegal (c : Config) : Bool :=
  let api := fieldAt c.idAa64isar1 8 4
  let apa := fieldAt c.idAa64isar1 4 4
  let apa3 := fieldAt c.idAa64isar2 12 4
  let n := Nat.max api (Nat.max apa apa3)
  ([api, apa, apa3].filter (fun k => k != 0)).length ≤ 1 &&
    c.has .PAuth == (n != 0) && c.has .EPAC == (n == 2) && c.has .PAuth2 == decide (3 ≤ n) &&
    c.has .FPAC == decide (4 ≤ n) && c.has .FPACCOMBINE == decide (5 ≤ n) && c.has .PAuth_LR == decide (6 ≤ n) &&
    (api == 0 || c.has .PACIMP) && (apa == 0 || c.has .PACQARMA5) && (apa3 == 0 || c.has .PACQARMA3)

/-- R280, R281, R315: at most one of GPI, GPA and GPA3 is nonzero; a nonzero GPI implies FEAT_PACIMP. -/
def pacGenericLegal (c : Config) : Bool :=
  let gpi := fieldAt c.idAa64isar1 28 4
  let gpa := fieldAt c.idAa64isar1 24 4
  let gpa3 := fieldAt c.idAa64isar2 8 4
  ([gpi, gpa, gpa3].filter (fun k => k != 0)).length ≤ 1 && (gpi == 0 || c.has .PACIMP)

/-- The constant obeys R272 to R287. -/
def isar1Legal (c : Config) : Bool :=
  (isar1Fields c).all (fun f => f.legal c c.idAa64isar1) && pacAddressLegal c && pacGenericLegal c

/-- The constant obeys R302 to R317. -/
def isar2Legal (c : Config) : Bool := (isar2Fields c).all (fun f => f.legal c c.idAa64isar2)

/-- R317: WFET and WFIT report the register number in ESR_ELx. -/
def wfxtReportsRegister (c : Config) : Bool := fieldAt c.idAa64isar2 0 4 == 2

/-! ## ID_AA64SMFR0_EL1 (R331 to R357) -/

/-- The fields of ID_AA64SMFR0_EL1 when FEAT_SME is implemented, from bit 63 down. -/
def smfr0Fields (c : Config) : List IdField :=
  [
   -- R332
   ⟨"FA64", 63, 1, [0, 1], [], [(.SME_FA64, [1])]⟩,
   -- R333
   ⟨"LUTv2", 60, 1, [0, 1], [], [(.SME_LUTv2, [1])]⟩,
   -- R334
   ⟨"SMEver", 56, 4, [0, 1, 2, 3],
      excludedIf (fromArch c 9 4) [1] ++
      excludedIf (fromArch c 9 6) [0, 2],
      [(.SME2, [1, 2, 3]), (.SME2p1, [2, 3]), (.SME2p2, [3])]⟩,
   -- R335
   ⟨"I16I64", 52, 4, [0, 15], [], [(.SME_I16I64, [15])]⟩,
   -- R336
   ⟨"F64F64", 48, 1, [0, 1], [], [(.SME_F64F64, [1])]⟩,
   -- R337
   ⟨"I16I32", 44, 4, [0, 5], [], [(.SME2, [5])]⟩,
   -- R338
   ⟨"B16B16", 43, 1, [0, 1], [], [(.SME_B16B16, [1])]⟩,
   -- R339
   ⟨"F16F16", 42, 1, [0, 1], [], [(.SME_F16F16, [1])]⟩,
   -- R340
   ⟨"F8F16", 41, 1, [0, 1], [], [(.SME_F8F16, [1])]⟩,
   -- R341
   ⟨"F8F32", 40, 1, [0, 1], [], [(.SME_F8F32, [1])]⟩,
   -- R342
   ⟨"I8I32", 36, 4, [15], [], []⟩,
   -- R343
   ⟨"F16F32", 35, 1, [1], [], []⟩,
   -- R344
   ⟨"B16F32", 34, 1, [1], [], []⟩,
   -- R345
   ⟨"BI32I32", 33, 1, [0, 1], [], [(.SME2, [1])]⟩,
   -- R346
   ⟨"F32F32", 32, 1, [1], [], []⟩,
   -- R347
   ⟨"SF8FMA", 30, 1, [0, 1], excludedIf (c.has .SME2 && c.has .FP8FMA) [0], [(.SSVE_FP8FMA, [1])]⟩,
   -- R348
   ⟨"SF8DP4", 29, 1, [0, 1], excludedIf (c.has .SME2 && c.has .FP8DOT4) [0], [(.SSVE_FP8DOT4, [1])]⟩,
   -- R349
   ⟨"SF8DP2", 28, 1, [0, 1], excludedIf (c.has .SME2 && c.has .FP8DOT2) [0], [(.SSVE_FP8DOT2, [1])]⟩,
   -- R350
   ⟨"SBitPerm", 25, 1, [0, 1], [], [(.SSVE_BitPerm, [1])]⟩,
   -- R351
   ⟨"AES", 24, 1, [0, 1], [], [(.SSVE_AES, [1])]⟩,
   -- R352
   ⟨"SFEXPA", 23, 1, [0, 1], [], [(.SSVE_FEXPA, [1])]⟩,
   -- R353
   ⟨"STMOP", 16, 1, [0, 1], [], [(.SME_TMOP, [1])]⟩,
   -- R354
   ⟨"SMOP4", 0, 1, [0, 1], [], [(.SME_MOP4, [1])]⟩]

/-- The constant obeys R332 to R357: the field rules with FEAT_SME; without it all zeros, and "every field's feature
is absent" (R357(a)); the reserved bits are 0 (R355). -/
def smfr0Legal (c : Config) : Bool :=
  if c.has .SME then
    (smfr0Fields c).all (fun f => f.legal c c.idAa64smfr0) && (c.idAa64smfr0 &&& smfr0Reserved == 0)
  else c.idAa64smfr0 == 0 && (smfr0Fields c).all fun f => f.ties.all fun t => !c.has t.1

/-- Every constraint of files 44 to 47 on the configuration (R25, R242, D17). -/
def idConstantsLegal (c : Config) : Bool := dfr0Legal c && isar1Legal c && isar2Legal c && smfr0Legal c

end Sys2Proof.Machine
end

