-- ==== Sys2Proof/Machine/Reset.lean ====
section
/-! DEFINITION. The Warm reset (spec/70 R550 to R556, D7). -/

namespace Sys2Proof.Machine

/-- What a reset takes from outside (D7: `ResetState`): the starting PC, PSTATE and general registers, and every
register outside the spec (R29, R33, R521).  The rest is what R556 leaves open too and D7 does not name: memory, the
bytes a fetch may still see of what stores replaced (R79), and Tag Check Faults accumulated and not yet synchronized
(R34(b)).  Here they are inputs as well, so a reset is not said to keep or to drop them (DESIGN CHOICE, log entry
53). -/
structure ResetInputs where
  pc            : Dword
  pstate        : PState
  x             : Vector Dword 31
  spEl0         : Dword
  spEl1         : Dword
  spEl2         : Dword
  spEl3         : Dword
  sctlrEl1      : Dword
  tcrEl2        : Dword
  tcr2El2       : Dword
  tcr2El2Pie    : Bool
  sctlr2El2Nmea : Bool
  el2Aarch32    : Bool
  hcrEl2        : HcrEl2
  hcrxEl2       : HcrxEl2
  scrEl3        : ScrEl3
  fgt           : FineGrainedTraps
  masks         : WriteMasks
  nvMemBase     : Dword
  nvMemFaults   : NvMemFaults
  dbgState      : DebugState
  bankEl1       : ExceptionBank
  bankEl2       : ExceptionBank
  bankEl3       : ExceptionBank
  farEl2        : Dword
  hpfarEl2      : Dword
  tagFaults     : TagFaults
  controlled    : ControlledRegisters
  named         : NamedRegisters
  pendingTagFaults : TagFaults
  mem           : Memory
  staleFetch    : List Host.Cell
  deriving DecidableEq, Repr

/-- The inputs `i` with the default starting level, `HighestEL` (D7). -/
def ResetInputs.atHighest (c : Config) (i : ResetInputs) : ResetInputs :=
  { i with pstate := { i.pstate with el := c.highestEL } }

/-- A Warm reset, also for a Cold reset (D7).  Each UNKNOWN field of an owned register is drawn afresh: draw
`freeCount + k` for register `k` (R550); the ID constants and the configuration are the same after as before (R555);
the hidden copies of R72 are emptied, the wait counter starts again and no exception is recorded; everything else is
taken from outside (R556, D7). -/
def State.warmReset (s : State) (i : ResetInputs) : State where
  cfg := s.cfg
  x := i.x
  pc := i.pc
  pstate := i.pstate
  spEl0 := i.spEl0
  spEl1 := i.spEl1
  spEl2 := i.spEl2
  spEl3 := i.spEl3
  sctlrEl2 := .settled (sctlrEl2ResetValue s.cfg (Config.freeDword (s.draw 0)))
  hfgrtr2El2 := .settled (hfgrtr2El2ResetValue s.cfg (Config.freeDword (s.draw 1)))
  tcr2El1 := .settled (tcr2El1ResetValue s.cfg (Config.freeDword (s.draw 2)))
  tcrEl1 := .settled (tcrEl1ResetValue s.cfg (Config.freeDword (s.draw 3)))
  sctlrEl1 := i.sctlrEl1
  tcrEl2 := i.tcrEl2
  tcr2El2 := i.tcr2El2
  tcr2El2Pie := i.tcr2El2Pie
  sctlr2El2Nmea := i.sctlr2El2Nmea
  el2Aarch32 := i.el2Aarch32
  hcrEl2 := i.hcrEl2
  hcrxEl2 := i.hcrxEl2
  scrEl3 := i.scrEl3
  fgt := i.fgt
  masks := i.masks
  nvMemBase := i.nvMemBase
  nvMemFaults := i.nvMemFaults
  dbgState := i.dbgState
  bankEl1 := i.bankEl1
  bankEl2 := i.bankEl2
  bankEl3 := i.bankEl3
  farEl2 := i.farEl2
  hpfarEl2 := i.hpfarEl2
  tagFaults := i.tagFaults
  pendingTagFaults := i.pendingTagFaults
  controlled := i.controlled
  named := i.named
  wfeCycles := 0
  mem := i.mem
  staleFetch := i.staleFetch
  lastException := none
  lastReturn := none
  freeCount := s.freeCount + Config.drawSlots

end Sys2Proof.Machine
end

