-- ==== Sys2Proof/Safety.lean ====
section
/-! DEFINITION. What a well-kept state is, and the shapes of a step's outcome in which the statements speak. -/

namespace Sys2Proof.Machine

/-! ## The invariant -/

/-- The two low bits are 0: an instruction address (R70). -/
def wordAligned (a : Dword) : Bool := a.extractLsb' 0 2 == 0

/-- An access in flight writes the constants of the layout to its constant bits and keeps none of them. -/
def NamedAccess.constant (k : ConstantBits) : NamedAccess → Bool
  | .wrote _ value mask => k.apply value == value && k.maskOnStorage mask == mask
  | .read _ _ => true

/-- Every value a register may have or act with has the constant bits of its layout (D3 (a)). -/
def CtlReg.constant (k : ConstantBits) (r : CtlReg) : Bool :=
  ((r.base :: (r.unsynced ++ r.stale)).all fun v => k.apply v == v) && r.tail.all fun e => e.constant k

/-- The PC, the vector bases and the vector offsets are instruction addresses (R70). -/
def State.addressesAligned (s : State) : Bool :=
  wordAligned s.pc && wordAligned s.bankEl1.vbar && wordAligned s.bankEl2.vbar && wordAligned s.bankEl3.vbar &&
    wordAligned s.cfg.entry.offsetSp0 && wordAligned s.cfg.entry.offsetSpx && wordAligned s.cfg.entry.offsetLower

/-- Every read in flight returned the value that the register has at its place (R560). -/
def State.readsConsistent (s : State) : Bool :=
  consistent s.sctlrEl2.base s.sctlrEl2.tail && consistent s.tcrEl1.base s.tcrEl1.tail &&
    consistent s.tcr2El1.base s.tcr2El1.tail

/-- The reserved bits of the owned registers hold their constants (D3 (a)). -/
def State.registersConstant (s : State) : Bool :=
  s.sctlrEl2.constant (sctlrConstants s.cfg) && s.hfgrtr2El2.constant (hfgrtr2Constants s.cfg) &&
    s.tcrEl1.constant (tcrConstants s.cfg) && s.tcr2El1.constant (tcr2Constants s.cfg)

/-- The invariant every step keeps: memory in canonical form; instruction addresses aligned; the current level
implemented and able to run A64 instructions (log entry 63); the reserved bits of the owned registers constant; the
accesses in flight consistent; `NVMemBase` 4KB-aligned (D6); the ID register constants and the feature set as the
field rules tie them (R25, D17); the granules of TG_FALLBACK implemented (R450, R457); nERXGSR_EL1 RES0 with
FEAT_RASv2 only where R227 permits it. -/
def State.inv (s : State) : Bool :=
  s.mem.wf && s.addressesAligned && s.cfg.haveEL s.pstate.el && s.runsA64At s.pstate.el && s.registersConstant &&
    s.readsConsistent && s.nvMemBase.extractLsb' 0 12 == 0 && idConstantsLegal s.cfg && granulesLegal s.cfg &&
    s.erxgsrRes0Permitted

/-- `s.inv` as a proposition. -/
abbrev State.Inv (s : State) : Prop := s.inv = true

/-! ## Shapes of an outcome -/

/-- `x[rt]` becomes `v` (nothing, for the zero register), the PC advances, and nothing else changes but the model's
counter of draws. -/
def ReadsInto (s t : State) (rt : Nat) (v : Dword) : Prop :=
  (rt < 31 → t.readX rt = v) ∧ (∀ r, r ≠ rt → t.readX r = s.readX r) ∧ t.pc = s.pc + 4 ∧
    (∀ a, t.byteAt a = s.byteAt a) ∧ t = { s with x := t.x, pc := t.pc, freeCount := t.freeCount }

/-- The eight bytes at `a` become the bytes of `v` in the byte order `bigEndian`, the PC advances, the older bytes
that a fetch may still return are joined by the eight that were replaced (R79, log entry 5), and nothing else
changes but the counter of draws. -/
def StoresDword (s t : State) (a : Dword) (bigEndian : Bool) (v : Dword) : Prop :=
  (∀ i, i < 8 →
    t.byteAt (a + BitVec.ofNat 64 i).toNat = v.extractLsb' (8 * (if bigEndian then 7 - i else i)) 8) ∧
    (∀ k, k ∉ byteAddresses a 8 → t.byteAt k = s.byteAt k) ∧ t.pc = s.pc + 4 ∧
    t = { s with
      mem := t.mem, pc := t.pc, freeCount := t.freeCount
      staleFetch := (byteAddresses a 8).map (fun k => (k, s.byteAt k)) ++ s.staleFetch }

/-- A register outside the spec, a plain 64-bit value, becomes `new` by the update `set`; the PC advances and nothing
else changes but the counter of draws. -/
def WritesPlain (s t : State) (set : State → Dword → State) (new : Dword) : Prop :=
  t = { set s new with pc := s.pc + 4, freeCount := t.freeCount } ∧ ∀ a, t.byteAt a = s.byteAt a

/-- A direct read under `name` of a register that was `r` finds `v` and leaves `r'` (R560).  In order with all other
accesses it finds the stored value.  Among accesses in flight it takes a place after every one under its own name,
and finds the value the register has there. -/
def ReadInOrder (r r' : CtlReg) (hazard : Bool) (name : AccessName) (v : Dword) : Prop :=
  if inOrder hazard name then v = r.val ∧ r' = { r with base := r.val, tail := [] }
  else
    ∃ k, ownEnd name r.tail ≤ k ∧ k ≤ r.tail.length ∧ v = replay r.base (r.tail.take k) ∧
      r' = { r with tail := if k = 0 then r.tail else r.tail.take k ++ .read name v :: r.tail.drop k }

/-- A direct write under `name` of `value`, keeping the bits of `mask`, turns the register `r` into `r'` (R195,
R560, R561).  In order with all other accesses it is the last of them.  Among accesses in flight it takes a place
after every one under its own name, the last one or one that contradicts no read in flight.  Until a context
synchronization event each value the register had or passed through may still be in force, and, for a register with
fields a TLB may cache (`cacheable`), until those are invalidated too. -/
def WrittenInOrder (r r' : CtlReg) (cacheable hazard : Bool) (name : AccessName) (value mask : Dword) : Prop :=
  (if inOrder hazard name then r'.base = maskedWrite value r.val mask ∧ r'.tail = []
    else
      r'.base = r.base ∧ ∃ k, ownEnd name r.tail ≤ k ∧ k ≤ r.tail.length ∧
        r'.tail = r.tail.take k ++ .wrote name value mask :: r.tail.drop k ∧
        (k = r.tail.length ∨ consistent r'.base r'.tail = true)) ∧
    (∀ v, v ∈ r'.unsynced ↔ v = r.val ∨ v ∈ passedValues r'.base r'.tail ∨ v ∈ r.unsynced) ∧
    (∀ v, v ∈ r'.stale ↔ (cacheable = true ∧ (v = r.val ∨ v ∈ passedValues r'.base r'.tail)) ∨ v ∈ r.stale)

/-- An owned register is written: `set` puts it into the state, `r` is what it was, `r'` what it becomes (its value
and all its hidden copies by `WrittenInOrder`).  Nothing else changes but the PC and the counter of draws. -/
def WritesOwned (s t : State) (set : State → CtlReg → State) (r r' : CtlReg) (cacheable hazard : Bool)
    (name : AccessName) (value mask : Dword) : Prop :=
  WrittenInOrder r r' cacheable hazard name value mask ∧
    t = { set s r' with pc := s.pc + 4, freeCount := t.freeCount } ∧ ∀ a, t.byteAt a = s.byteAt a

/-- What is in force after a write that turned the register `r` into `r'` and put `new` into it, for a register with
these fields (R72, R561, R563), whatever is drawn: each field of `r` or of `new`; after a context synchronization
event that of `new`, for a field of which a TLB may not hold the old value; after a TLB invalidation too, `new`. -/
def TakesEffect (r r' : CtlReg) (fields : List ViewField) (new : Dword) : Prop :=
  ∀ n, (∀ f ∈ fields,
      fieldAt (r'.view fields n) f.lo f.width = fieldAt r.val f.lo f.width ∨
        fieldAt (r'.view fields n) f.lo f.width = fieldAt new f.lo f.width) ∧
    (∀ f ∈ fields, f.cached (fieldAt r.val f.lo f.width) = false →
      fieldAt (r'.synchronize.view fields n) f.lo f.width = fieldAt new f.lo f.width) ∧
    r'.synchronize.invalidateTlb.view fields n = new

/-- The MRS `i` completes from `s` and reads back one of the values `vs` of the register `reg`, as `back` gives it. -/
def ReadFinds (s : State) (reg : State → CtlReg) (set : State → CtlReg → State) (back : Dword → Dword) (i : Instr)
    (vs : List Dword) : Prop :=
  ∃ u, exec i s = .next u ∧ ∃ v ∈ vs, ReadsInto (set s (reg u)) u i.rt (back v)

/-- Two names A and B of one register, unordered with each other (R190, R399, R478, R560), from a state with no
access in flight.  An MSR by A writes the operand, with the constants of `k` and under the write mask `mask`.  After
it an MRS by A finds the new value, and one by B the new or the old.  After an MSR by B too, either value may be the
final one, and an MRS by either name finds one of the two. -/
def UnorderedNames (s : State) (reg : State → CtlReg) (set : State → CtlReg → State) (k : ConstantBits)
    (back : Dword → Dword) (mask : Dword) (msrA mrsA msrB mrsB : Nat → Instr) : Prop :=
  let written := fun rt => maskedWrite (k.apply (s.readX rt)) (reg s).val (k.maskOnStorage mask)
  ∀ rt rt', ∃ t, exec (msrA rt) s = .next t ∧
    ReadFinds t reg set back (mrsA rt') [written rt] ∧
    ReadFinds t reg set back (mrsB rt') [written rt, (reg s).val] ∧
    ∀ rt₂, ∃ t₂, exec (msrB rt₂) t = .next t₂ ∧ (reg t₂).val ∈ [written rt, written rt₂] ∧
      ReadFinds t₂ reg set back (mrsA rt') [written rt, written rt₂] ∧
      ReadFinds t₂ reg set back (mrsB rt') [written rt, written rt₂]

/-- The instruction completes and changes nothing but the PC and the counter of draws. -/
def ChangesNothing (s t : State) : Prop :=
  t = { s with pc := s.pc + 4, freeCount := t.freeCount } ∧ ∀ a, t.byteAt a = s.byteAt a

/-- The parts of entry that the spec leaves to the surrounding PE model (R521; log entry 11): PSTATE is saved in the
target's SPSR, PSTATE.SP and BTYPE take the values of the interface, and the PC is the vector entry, for EL1 through
the top-byte rule of R513 with some setting of its two controls. -/
def EntersHandler (s t : State) (target : EL) : Prop :=
  pstateOfSpsr (t.bank target).spsr = s.pstate ∧
    t.pstate.sp = s.cfg.entry.spAfter ∧ t.pstate.btype = s.cfg.entry.btypeAfter ∧
    ∃ ignore0 ignore1,
      t.pc =
        let handler := (s.bank target).vbar + vectorOffset s.cfg.entry s.pstate.el target s.pstate.sp
        if target = .el1 then pcFromTarget ignore0 ignore1 handler else handler

/-- A synchronous exception of the instruction at `s.pc` is taken to `target` (R501, R502, R521): the syndrome
register of the target holds the EC (of a fault that has only a name, some EC) and the ISS, with bits [63:32] 0
where the spec states the ISS and anything otherwise (log entry 56), the preferred return address is the
instruction's own, the exception is the record of R521, PSTATE.EL is the target, and the handler is entered
(`EntersHandler`).  The owned registers keep their value; they are synchronized exactly when the record says that
the entry was a context synchronization event.  The instruction has no effect of its own: general registers, memory,
and every System register outside the target's exception registers and the tag-fault registers are as before. -/
def TakesException (s t : State) (kind : ExcKind) (target : EL) (cause : ExcCause) (iss : Option (BitVec 25)) : Prop :=
  t.pstate.el = target ∧
    (t.bank target).elr = s.pc ∧
    (t.bank target).vbar = (s.bank target).vbar ∧
    (∃ upper ec issBits, (cause = .ec ec ∨ ∃ f, cause = .fault f) ∧
      (iss = none ∨ (iss = some issBits ∧ upper = 0)) ∧ (t.bank target).esr = syndrome upper ec issBits) ∧
    (∃ cs es, t.lastException = some ⟨kind, target, cause, iss, cs, es⟩ ∧
      (t.sctlrEl2, t.hfgrtr2El2, t.tcrEl1, t.tcr2El1) =
        if cs then (s.sctlrEl2.synchronize, s.hfgrtr2El2.synchronize, s.tcrEl1.synchronize, s.tcr2El1.synchronize)
        else (s.sctlrEl2, s.hfgrtr2El2, s.tcrEl1, s.tcr2El1)) ∧
    t.sctlrEl2.val = s.sctlrEl2.val ∧ t.hfgrtr2El2.val = s.hfgrtr2El2.val ∧
    t.tcrEl1.val = s.tcrEl1.val ∧ t.tcr2El1.val = s.tcr2El1.val ∧
    (∀ a, t.byteAt a = s.byteAt a) ∧
    EntersHandler s t target ∧
    t = { s with
      pc := t.pc, pstate := t.pstate, lastException := t.lastException, freeCount := t.freeCount
      bankEl1 := if target = .el1 then t.bankEl1 else s.bankEl1
      bankEl2 := if target = .el2 then t.bankEl2 else s.bankEl2
      bankEl3 := if target = .el3 then t.bankEl3 else s.bankEl3
      farEl2 := if target = .el2 then t.farEl2 else s.farEl2
      hpfarEl2 := if target = .el2 then t.hpfarEl2 else s.hpfarEl2
      tagFaults := if target = .el2 then t.tagFaults else s.tagFaults
      pendingTagFaults := if target = .el2 then t.pendingTagFaults else s.pendingTagFaults
      sctlrEl2 := t.sctlrEl2, hfgrtr2El2 := t.hfgrtr2El2, tcrEl1 := t.tcrEl1, tcr2El1 := t.tcr2El1 }

/-- The MRS or MSR word `w` is trapped to `target` with EC 0x18 and its own syndrome (R501). -/
def TrapsTo (s t : State) (target : EL) (w : InstrWord) : Prop :=
  TakesException s t .systemAccessTrap target (.ec 0x18) (some (accessIss w))

/-- The instruction is UNDEFINED (R502). -/
def IsUndefined (s t : State) : Prop := TakesException s t .undefined s.undefinedTarget (.ec 0) none

/-! ## Courses shared by the accessors of one register -/

/-- A read of `NVMem[offset]` into X`rt`, or the fault of that access, taken to EL2 (R75). -/
def ReadsNvMem (s t : State) (rt : Nat) (offset : Dword) : Prop :=
  if s.nvMemFaults.onRead then TakesException s t .fault .el2 (.fault .nvMemAccess) none
  else ReadsInto s t rt (s.nvMemRead offset)

/-- A store of X`rt` to NVMem at the address `a`, or the fault of that access, taken to EL2 (R75). -/
def StoresNvMem (s t : State) (rt : Nat) (a : Dword) : Prop :=
  if s.nvMemFaults.onWrite then TakesException s t .fault .el2 (.fault .nvMemAccess) none
  else StoresDword s t a s.nvMemBigEndian (s.readX rt)

/-- A read of SCTLR_EL2 under a name (R560): the value it finds, with the constant bits of this implementation and
context (D3); 0 where EL2 is not implemented (R21(a)). -/
def ReadsSctlrEl2 (s t : State) (rt : Nat) (name : AccessName) : Prop :=
  if s.cfg.haveEL2 then
    ∃ v, ReadInOrder s.sctlrEl2 t.sctlrEl2 (s.pstate.el == .el2 && s.host2) name v ∧
      ReadsInto { s with sctlrEl2 := t.sctlrEl2 } t rt
        ((sctlrConstants s.cfg).apply v ||| sctlrReservedOnes s.cfg s.host2 s.host0)
  else ReadsInto s t rt 0

/-- A write of X`rt` to SCTLR_EL2 under a name and the write mask `mask` (R195).  Without EL2 nothing is written. -/
def WritesSctlrEl2 (s t : State) (rt : Nat) (name : AccessName) (mask : Dword) : Prop :=
  let k := sctlrConstants s.cfg
  if s.cfg.haveEL2 then
    WritesOwned s t (fun s r => { s with sctlrEl2 := r }) s.sctlrEl2 t.sctlrEl2 true
      (s.pstate.el == .el2 && s.host2) name (k.apply (s.readX rt)) (k.maskOnStorage mask)
  else ChangesNothing s t

/-- A read of TCR2_EL1, likewise. -/
def ReadsTcr2El1 (s t : State) (rt : Nat) (name : AccessName) : Prop :=
  ∃ v, ReadInOrder s.tcr2El1 t.tcr2El1 (s.pstate.el == .el3 && s.host2) name v ∧
    ReadsInto { s with tcr2El1 := t.tcr2El1 } t rt ((tcr2Constants s.cfg).apply v)

/-- A write of TCR2_EL1, likewise. -/
def WritesTcr2El1 (s t : State) (rt : Nat) (name : AccessName) (mask : Dword) : Prop :=
  let k := tcr2Constants s.cfg
  WritesOwned s t (fun s r => { s with tcr2El1 := r }) s.tcr2El1 t.tcr2El1 true
    (s.pstate.el == .el3 && s.host2) name (k.apply (s.readX rt)) (k.maskOnStorage mask)

/-- A read of TCR_EL1, likewise, with the granule fields as R450 and R457 read them back. -/
def ReadsTcrEl1 (s t : State) (rt : Nat) (name : AccessName) : Prop :=
  ∃ v, ReadInOrder s.tcrEl1 t.tcrEl1 (s.pstate.el == .el3 && s.host2) name v ∧
    ReadsInto { s with tcrEl1 := t.tcrEl1 } t rt (tcrReadBack s.cfg v)

/-- A write of TCR_EL1, likewise. -/
def WritesTcrEl1 (s t : State) (rt : Nat) (name : AccessName) (mask : Dword) : Prop :=
  let k := tcrConstants s.cfg
  WritesOwned s t (fun s r => { s with tcrEl1 := r }) s.tcrEl1 t.tcrEl1 true
    (s.pstate.el == .el3 && s.host2) name (k.apply (s.readX rt)) (k.maskOnStorage mask)

/-- The checks of a TCR2_EL1 or TCR2ALIAS_EL1 access at EL1 in the order of R507, down to the NVMem redirection and
the register.  `vmTrap` is HCR_EL2.TRVM or TVM; `fineTrap` the fine-grained trap of the name. -/
def Tcr2CourseAtEl1 (s t : State) (w : InstrWord) (vmTrap fineTrap : Bool) (redirected reached : Prop) : Prop :=
  let disabled := s.cfg.haveEL3 && !s.scrEl3.tcr2en
  if disabled && s.el3SddUndef && s.cfg.el3SddUndefFirst then IsUndefined s t
  else if s.el2Enabled && (vmTrap || fineTrap || !(s.hcrxEnabled && s.hcrxEl2.tcr2en)) then TrapsTo s t .el2 w
  else if disabled then (if s.el3SddUndef then IsUndefined s t else TrapsTo s t .el3 w)
  else if s.nvx = 7 then redirected else reached

/-- The checks of a TCR2_EL1 or TCR2ALIAS_EL1 access at EL2. -/
def Tcr2CourseAtEl2 (s t : State) (w : InstrWord) (inHost notInHost : Prop) : Prop :=
  if s.cfg.haveEL3 && !s.scrEl3.tcr2en then (if s.el3SddUndef then IsUndefined s t else TrapsTo s t .el3 w)
  else if s.host2 then inHost else notInHost

/-- The course of an ID register read (R259, R288, R318, R356): `present` is line 1, `tid3` the condition that
HCR_EL2.TID3 acts under besides EL2 being enabled, `value` what the register reads as. -/
def IdReadCourse (s t : State) (rt : Nat) (w : InstrWord) (present tid3 : Bool) (value : Dword) : Prop :=
  let disabled := s.cfg.haveEL3 && s.has .IDTE3 && s.scrEl3.tid3
  if present = false then IsUndefined s t
  else
    match s.pstate.el with
    | .el0 =>
      if s.has .IDST then TrapsTo s t (if s.el2Enabled && s.hcrEl2.tge then .el2 else .el1) w else IsUndefined s t
    | .el1 =>
      if disabled && s.el3SddUndef && s.cfg.el3SddUndefFirst then IsUndefined s t
      else if s.el2Enabled && tid3 && s.hcrEl2.tid3 then TrapsTo s t .el2 w
      else if disabled then (if s.el3SddUndef then IsUndefined s t else TrapsTo s t .el3 w)
      else ReadsInto s t rt value
    | .el2 =>
      if disabled then (if s.el3SddUndef then IsUndefined s t else TrapsTo s t .el3 w) else ReadsInto s t rt value
    | .el3 => ReadsInto s t rt value

end Sys2Proof.Machine
end

