-- ==== Sys2Proof/Certificates/Slice0/Obligations.lean ====
section
/-! DEFINITION. The statements about the model, for the provers.  Each docstring names the rule of spec/ it follows.
`Reads…`, `Writes…`, `StoresDword`, `TrapsTo`, `IsUndefined` (Sys2Proof/Safety.lean) each say the whole frame: what
changes, and that every other register, flag, special register and byte of memory is as before. -/

open Sys2Proof Sys2Proof.Machine

/-! ## Encoding -/

/-- R92, R93, R95: decoding the bytes of a well-formed instruction gives it back, whatever bytes follow.
The word is that of R92's general knowledge (log entry 2), its bytes in R61's order (log entry 5). -/
def Obligations.DecodeOfEncode : Prop :=
  ∀ (i : Instr) (rest : List Byte), i.WellFormed → decode (encodeBytes i ++ rest) = .instr i

/-- R93, R95: a word that decodes to an accessor is the word R92 builds for it (general knowledge, log entry
2). -/
def Obligations.EncodeOfDecode : Prop :=
  ∀ (w : InstrWord) (i : Instr), decodeWord w = .instr i → i.WellFormed ∧ encode i = w

/-- The encoding vectors E1, E2, E4, E5, E9, E10, E12, E14, E16, E19, E22 and E27. -/
def Obligations.DecodeSpecWords : Prop :=
  decode [0x00, 0x10, 0x3C, 0xD5] = .instr (.mrsSctlrEl2 0) ∧
  decode [0x01, 0x10, 0x1C, 0xD5] = .instr (.msrSctlrEl2 1) ∧
  decode [0x03, 0x10, 0x18, 0xD5] = .instr (.msrSctlrEl1 3) ∧
  decode [0x44, 0x31, 0x3C, 0xD5] = .instr (.mrsHfgrtr2El2 4) ∧
  decode [0x4F, 0x06, 0x38, 0xD5] = .instr (.mrsIdAa64isar2El1 15) ∧
  decode [0xB1, 0x04, 0x38, 0xD5] = .instr (.mrsIdAa64smfr0El1 17) ∧
  decode [0x7F, 0x20, 0x18, 0xD5] = .instr (.msrTcr2El1 31) ∧
  decode [0x74, 0x20, 0x1D, 0xD5] = .instr (.msrTcr2El12 20) ∧
  decode [0xE6, 0x27, 0x18, 0xD5] = .instr (.msrTcr2aliasEl1 6) ∧
  decode [0x50, 0x20, 0x3D, 0xD5] = .instr (.mrsTcrEl12 16) ∧
  decode [0xD3, 0x27, 0x18, 0xD5] = .instr (.msrTcraliasEl1 19) ∧
  decode [0x1F, 0x10, 0x3C, 0xD5] = .instr (.mrsSctlrEl2 31)

/-- R93: the word that R92 builds from the coordinate of each accessor is its `match` value with `Rt` in the low
bits (R92 is general knowledge, log entry 2). -/
def Obligations.MatchWords : Prop :=
  ∀ rt < 32, let r := BitVec.ofNat 32 rt
    encode (.mrsSctlrEl2 rt) = 0xD53C1000#32 ||| r ∧
    encode (.msrSctlrEl2 rt) = 0xD51C1000#32 ||| r ∧
    encode (.mrsSctlrEl1 rt) = 0xD5381000#32 ||| r ∧
    encode (.msrSctlrEl1 rt) = 0xD5181000#32 ||| r ∧
    encode (.mrsHfgrtr2El2 rt) = 0xD53C3140#32 ||| r ∧
    encode (.msrHfgrtr2El2 rt) = 0xD51C3140#32 ||| r ∧
    encode (.mrsIdAa64dfr0El1 rt) = 0xD5380500#32 ||| r ∧
    encode (.mrsIdAa64isar1El1 rt) = 0xD5380620#32 ||| r ∧
    encode (.mrsIdAa64isar2El1 rt) = 0xD5380640#32 ||| r ∧
    encode (.mrsIdAa64smfr0El1 rt) = 0xD53804A0#32 ||| r ∧
    encode (.mrsTcr2El1 rt) = 0xD5382060#32 ||| r ∧
    encode (.msrTcr2El1 rt) = 0xD5182060#32 ||| r ∧
    encode (.mrsTcr2El12 rt) = 0xD53D2060#32 ||| r ∧
    encode (.msrTcr2El12 rt) = 0xD51D2060#32 ||| r ∧
    encode (.mrsTcr2aliasEl1 rt) = 0xD53827E0#32 ||| r ∧
    encode (.msrTcr2aliasEl1 rt) = 0xD51827E0#32 ||| r ∧
    encode (.mrsTcrEl1 rt) = 0xD5382040#32 ||| r ∧
    encode (.msrTcrEl1 rt) = 0xD5182040#32 ||| r ∧
    encode (.mrsTcrEl12 rt) = 0xD53D2040#32 ||| r ∧
    encode (.msrTcrEl12 rt) = 0xD51D2040#32 ||| r ∧
    encode (.mrsTcraliasEl1 rt) = 0xD53827C0#32 ||| r ∧
    encode (.msrTcraliasEl1 rt) = 0xD51827C0#32 ||| r

/-- R96, D14: the MSR word of a read-only ID register is UNDEFINED, with any Rt.  The model's choices in it: the
UNDEFINED itself (D14, log entry 16), and the level it is taken to (R502's general knowledge, log entry 13). -/
def Obligations.ReadOnlyIdWriteUndefined : Prop :=
  ∀ (s : State) (w : InstrWord),
    w &&& 0xFFFFFFE0#32 ∈ [0xD5180500#32, 0xD5180620#32, 0xD5180640#32, 0xD51804A0#32] →
      ∃ t, run (decode (bytesOfWord w)) s = .next t ∧ IsUndefined s t

/-- R95, R96, D14: an MRS or MSR of a coordinate outside the 13 of R93 and outside the IMPLEMENTATION DEFINED space is
refused by name, and so is a word that is no MRS or MSR. -/
def Obligations.OutsideTheSpecRefused : Prop :=
  ∀ (s : State) (w : InstrWord),
    (w &&& 0xFFD00000#32 ≠ 0xD5100000#32 →
      run (decode (bytesOfWord w)) s = .refused (.instructionOutsideSpec w)) ∧
    (w &&& 0xFFD00000#32 = 0xD5100000#32 →
      (w.getLsbD 19 = false ∨
        ((∀ i : Instr, i.coordinate ≠ wordCoordinate w) ∧ w.extractLsb' 12 4 ≠ 11#4 ∧ w.extractLsb' 12 4 ≠ 15#4)) →
      run (decode (bytesOfWord w)) s = .refused (.registerOutsideSpec w))

/-- R97, R120 (iii): an MRS or MSR of the IMPLEMENTATION DEFINED space is trapped to EL2 at EL0 under a host with
TGE 1 by TIDCP, and is refused otherwise (log entry 17), for a register with nothing unsynchronized. -/
def Obligations.ImplementationDefinedAccess : Prop :=
  ∀ (s : State) (w : InstrWord), w &&& 0xFFD00000#32 = 0xD5100000#32 → w.getLsbD 19 = true →
    (w.extractLsb' 12 4 = 11#4 ∨ w.extractLsb' 12 4 = 15#4) → s.sctlrEl2.unsynced = [] →
    if s.has .TIDCP1 && s.host2 && s.hcrEl2.tge && s.pstate.el == .el0 && s.sctlrEl2.val.getLsbD 63 then
      ∃ t, run (decode (bytesOfWord w)) s = .next t ∧ TrapsTo s t .el2 w
    else run (decode (bytesOfWord w)) s = .refused (.implementationDefinedRegister w)

/-! ## One step -/

/-- A step runs the instruction whose bytes stand at the PC, when no store has left older bytes for the fetch (R61,
R70, R79, R95): the step is `exec` of the decoded instruction and nothing around it.  That an instruction is fetched
little-endian, and which older bytes a fetch may return, is log entry 5. -/
def Obligations.StepRunsDecodedInstruction : Prop :=
  ∀ (s : State) (i : Instr), s.pc.extractLsb' 0 2 = 0 →
    (∀ c ∈ s.staleFetch, ∀ k < 4, c.1 ≠ (s.pc + BitVec.ofNat 64 k).toNat) →
    decode [s.byteAt s.pc.toNat, s.byteAt (s.pc + 1).toNat, s.byteAt (s.pc + 2).toNat, s.byteAt (s.pc + 3).toNat] =
      .instr i →
    step s = exec i s

/-- A word stored at the PC in little-endian order (R61's general knowledge, log entry 5) is what the next step
runs. -/
def Obligations.StepRunsPlacedWord : Prop :=
  ∀ (s : State) (w : InstrWord), s.mem.wf = true → s.pc.extractLsb' 0 2 = 0 →
    step (s.withFetchWord 32 w.toNat) = run (decodeWord w) (s.withFetchWord 32 w.toNat)

/-- A PC that is not 4-byte aligned stops the machine by name (R70; the fault is the model's, log entry 4). -/
def Obligations.MisalignedPcFaults : Prop :=
  ∀ s : State, s.pc.extractLsb' 0 2 ≠ 0 → step s = .fault .pcAlignment

/-! ## The accessors of SCTLR_EL2 -/

/-- R191.  The model's choices in it: PC + 4 (D5, log entry 4), what reserved bits read as and 0 without EL2 (D3,
entry 14), the values that an access out of order finds (R560, entry 18), and where UNDEFINED is taken (entry 13).
-/
def Obligations.MrsSctlrEl2 : Prop :=
  ∀ (s : State) (rt : Nat), ∃ t, exec (.mrsSctlrEl2 rt) s = .next t ∧
    if s.has .AA64 = false ∨ s.pstate.el = .el0 then IsUndefined s t
    else if s.pstate.el = .el1 then
      (if s.nvx.getLsbD 0 then TrapsTo s t .el2 (encode (.mrsSctlrEl2 rt)) else IsUndefined s t)
    else ReadsSctlrEl2 s t rt .first

/-- R192.  The model's choices in it: PC + 4 (D5, log entry 4), where UNDEFINED is taken (entry 13), the constant
bits and no write without EL2 (D3, entry 14), and that either of two unordered writes may be the last (R560, entry
18). -/
def Obligations.MsrSctlrEl2 : Prop :=
  ∀ (s : State) (rt : Nat), ∃ t, exec (.msrSctlrEl2 rt) s = .next t ∧
    if s.has .AA64 = false ∨ s.pstate.el = .el0 then IsUndefined s t
    else if s.pstate.el = .el1 then
      (if s.nvx.getLsbD 0 then TrapsTo s t .el2 (encode (.msrSctlrEl2 rt)) else IsUndefined s t)
    else if s.pstate.el = .el2 then
      WritesSctlrEl2 s t rt .first (if s.has .SRMASK then s.masks.sctlrEl2 else 0)
    else WritesSctlrEl2 s t rt .first 0

/-- R193.  The model's choices in it: PC + 4 (D5, log entry 4), the base, byte order and faults of NVMem (D6, entry
7), where UNDEFINED is taken (entry 13), what reserved bits read as (D3, entry 14), and accesses out of order (R560,
entry 18). -/
def Obligations.MrsSctlrEl1 : Prop :=
  ∀ (s : State) (rt : Nat), ∃ t, exec (.mrsSctlrEl1 rt) s = .next t ∧
    if s.has .AA64 = false ∨ s.pstate.el = .el0 then IsUndefined s t
    else if s.pstate.el = .el1 then
      (if s.el2Enabled &&
          (s.hcrEl2.trvm || s.has .FGT && (!s.cfg.haveEL3 || s.scrEl3.fgten) && s.fgt.rSctlrEl1) then
        TrapsTo s t .el2 (encode (.mrsSctlrEl1 rt))
      else if s.nvx = 7 then ReadsNvMem s t rt 0x110
      else ReadsInto s t rt s.sctlrEl1)
    else if s.pstate.el = .el2 ∧ s.host2 = true then ReadsSctlrEl2 s t rt .second
    else ReadsInto s t rt s.sctlrEl1

/-- R194.  The model's choices in it: which older bytes a fetch may return after a store (R79, log entry 5), PC + 4
(D5, entry 4), the base, byte order and faults of NVMem (D6, entry 7), where UNDEFINED is taken (entry 13), the
constant bits (D3, entry 14), accesses out of order (R560, entry 18), and SCTLR_EL1 as plain storage (entry 36). -/
def Obligations.MsrSctlrEl1 : Prop :=
  ∀ (s : State) (rt : Nat), s.mem.wf = true → ∃ t, exec (.msrSctlrEl1 rt) s = .next t ∧
    if s.has .AA64 = false ∨ s.pstate.el = .el0 then IsUndefined s t
    else if s.pstate.el = .el1 then
      (if s.el2Enabled &&
          (s.hcrEl2.tvm || s.has .FGT && (!s.cfg.haveEL3 || s.scrEl3.fgten) && s.fgt.wSctlrEl1) then
        TrapsTo s t .el2 (encode (.msrSctlrEl1 rt))
      else if s.nvx = 7 then StoresNvMem s t rt (s.nvMemBase + 0x110)
      else WritesPlain s t (fun s v => { s with sctlrEl1 := v })
        (maskedWrite (s.readX rt) s.sctlrEl1 (if s.has .SRMASK then s.masks.sctlrEl1 else 0)))
    else if s.pstate.el = .el2 ∧ s.host2 = true then
      WritesSctlrEl2 s t rt .second (if s.has .SRMASK then s.masks.sctlrEl2 else 0)
    else WritesPlain s t (fun s v => { s with sctlrEl1 := v }) (s.readX rt)

/-! ## The accessors of HFGRTR2_EL2 -/

/-- R229.  The model's choices in it: PC + 4 (D5, log entry 4), NVMem (D6, entry 7), where UNDEFINED is taken (entry
13), the constant bits and 0 without EL2 (D3, entry 14), and EL3SDDUndef (entry 34). -/
def Obligations.MrsHfgrtr2El2 : Prop :=
  ∀ (s : State) (rt : Nat), ∃ t, exec (.mrsHfgrtr2El2 rt) s = .next t ∧
    if (s.has .FGT2 && s.has .AA64) = false ∨ s.pstate.el = .el0 then IsUndefined s t
    else if s.pstate.el = .el1 then
      (if s.nvx.getLsbD 2 && s.nvx.getLsbD 0 then ReadsNvMem s t rt 0x2C0
      else if s.nvx.getLsbD 0 then TrapsTo s t .el2 (encode (.mrsHfgrtr2El2 rt))
      else IsUndefined s t)
    else if s.pstate.el = .el2 ∧ s.cfg.haveEL3 = true ∧ s.scrEl3.fgten2 = false then
      (if s.el3SddUndef then IsUndefined s t else TrapsTo s t .el3 (encode (.mrsHfgrtr2El2 rt)))
    else ReadsInto s t rt
      (if s.cfg.haveEL2 then (hfgrtr2Constants s.cfg).apply s.hfgrtr2El2.val else 0)

/-- R230.  The model's choices in it: which older bytes a fetch may return after a store (R79, log entry 5), PC + 4
(D5, entry 4), NVMem (D6, entry 7), where UNDEFINED is taken (entry 13), the constant bits and nothing written without
EL2 (D3, entry 14), and EL3SDDUndef (entry 34). -/
def Obligations.MsrHfgrtr2El2 : Prop :=
  ∀ (s : State) (rt : Nat), s.mem.wf = true → ∃ t, exec (.msrHfgrtr2El2 rt) s = .next t ∧
    if (s.has .FGT2 && s.has .AA64) = false ∨ s.pstate.el = .el0 then IsUndefined s t
    else if s.pstate.el = .el1 then
      (if s.nvx.getLsbD 2 && s.nvx.getLsbD 0 then
        StoresNvMem s t rt (s.nvMemBase + 0x2C0)
      else if s.nvx.getLsbD 0 then TrapsTo s t .el2 (encode (.msrHfgrtr2El2 rt))
      else IsUndefined s t)
    else if s.pstate.el = .el2 ∧ s.cfg.haveEL3 = true ∧ s.scrEl3.fgten2 = false then
      (if s.el3SddUndef then IsUndefined s t else TrapsTo s t .el3 (encode (.msrHfgrtr2El2 rt)))
    else if s.cfg.haveEL2 then
      WritesOwned s t (fun s r => { s with hfgrtr2El2 := r }) s.hfgrtr2El2 t.hfgrtr2El2 false false .unpaired
        ((hfgrtr2Constants s.cfg).apply (s.readX rt)) 0
    else ChangesNothing s t

/-! ## The ID registers -/

/-- R259.  The model's choices in it: PC + 4 (D5, log entry 4), where UNDEFINED is taken (entry 13), EL3SDDUndef
(entry 34), and UNDEFINED without FEAT_AA64 (D2, entry 44). -/
def Obligations.MrsIdAa64dfr0El1 : Prop :=
  ∀ (s : State) (rt : Nat), ∃ t, exec (.mrsIdAa64dfr0El1 rt) s = .next t ∧
    IdReadCourse s t rt (encode (.mrsIdAa64dfr0El1 rt)) (s.has .AA64) true s.cfg.idAa64dfr0

/-- R288.  The model's choices in it: PC + 4 (D5, log entry 4), where UNDEFINED is taken (entry 13), EL3SDDUndef
(entry 34), and UNDEFINED without FEAT_AA64 (D2, entry 44). -/
def Obligations.MrsIdAa64isar1El1 : Prop :=
  ∀ (s : State) (rt : Nat), ∃ t, exec (.mrsIdAa64isar1El1 rt) s = .next t ∧
    IdReadCourse s t rt (encode (.mrsIdAa64isar1El1 rt)) (s.has .AA64) true s.cfg.idAa64isar1

/-- R318.  The model's choices in it: PC + 4 (D5, log entry 4), where UNDEFINED is taken (entry 13), EL3SDDUndef
(entry 34), UNDEFINED without FEAT_AA64 (D2, entry 44), and that IsZero is of the value the register reads as (entry
41). -/
def Obligations.MrsIdAa64isar2El1 : Prop :=
  ∀ (s : State) (rt : Nat), ∃ t, exec (.mrsIdAa64isar2El1 rt) s = .next t ∧
    IdReadCourse s t rt (encode (.mrsIdAa64isar2El1 rt)) (s.has .AA64)
      (s.has .FGT || s.cfg.idAa64isar2 != 0 || s.cfg.isar2TrappedByTid3) s.cfg.idAa64isar2

/-- R356: no FEAT_AA64 line.  The reserved bits read as 0 (R355), I16I32 and BI32I32 without FEAT_SME2 among them
(R337, R345), and the whole register without FEAT_SME (R357(a)).  The model's choices in it: PC + 4 (D5, log entry
4), where UNDEFINED is taken (entry 13), EL3SDDUndef (entry 34), and that reserved bits read as 0 whatever is
configured and IsZero is of the value read (entry 41); that the access is not UNDEFINED without FEAT_SME is entry
71. -/
def Obligations.MrsIdAa64smfr0El1 : Prop :=
  ∀ (s : State) (rt : Nat), ∃ t, exec (.mrsIdAa64smfr0El1 rt) s = .next t ∧
    let value : Dword :=
      if s.has .SME then
        s.cfg.idAa64smfr0 &&& (if s.has .SME2 then ~~~0x600E00008C7EFFFE else ~~~0x600EF0028C7EFFFE)
      else 0
    IdReadCourse s t rt (encode (.mrsIdAa64smfr0El1 rt)) true
      (s.has .FGT || value != 0 || s.cfg.smfr0TrappedByTid3) value

/-! ## The accessors of TCR2_EL1 -/

/-- R400; the fine-grained trap bit is the one named TCR_EL1.  The model's choices in it: PC + 4 (D5, log entry 4),
NVMem (D6, entry 7), where UNDEFINED is taken (entry 13), the constant bits (D3, entry 14), accesses out of order
(R560, entry 18), EL3SDDUndef (entry 34), and TCR2_EL2 as plain storage (entry 36). -/
def Obligations.MrsTcr2El1 : Prop :=
  ∀ (s : State) (rt : Nat), ∃ t, exec (.mrsTcr2El1 rt) s = .next t ∧
    if (s.has .TCR2 && s.has .AA64) = false ∨ s.pstate.el = .el0 then IsUndefined s t
    else if s.pstate.el = .el1 then
      Tcr2CourseAtEl1 s t (encode (.mrsTcr2El1 rt)) s.hcrEl2.trvm
        (s.has .FGT && (!s.cfg.haveEL3 || s.scrEl3.fgten) && s.fgt.rTcrEl1)
        (ReadsNvMem s t rt 0x270) (ReadsTcr2El1 s t rt .first)
    else if s.pstate.el = .el2 then
      Tcr2CourseAtEl2 s t (encode (.mrsTcr2El1 rt)) (ReadsInto s t rt s.tcr2El2)
        (ReadsTcr2El1 s t rt .first)
    else ReadsTcr2El1 s t rt .first

/-- R401.  The model's choices in it: which older bytes a fetch may return after a store (R79, log entry 5), PC + 4
(D5, entry 4), NVMem (D6, entry 7), where UNDEFINED is taken (entry 13), the constant bits (D3, entry 14), accesses
out of order (R560, entry 18), EL3SDDUndef (entry 34), and TCR2_EL2 as plain storage (entry 36). -/
def Obligations.MsrTcr2El1 : Prop :=
  ∀ (s : State) (rt : Nat), s.mem.wf = true → ∃ t, exec (.msrTcr2El1 rt) s = .next t ∧
    if (s.has .TCR2 && s.has .AA64) = false ∨ s.pstate.el = .el0 then IsUndefined s t
    else if s.pstate.el = .el1 then
      Tcr2CourseAtEl1 s t (encode (.msrTcr2El1 rt)) s.hcrEl2.tvm
        (s.has .FGT && (!s.cfg.haveEL3 || s.scrEl3.fgten) && s.fgt.wTcrEl1)
        (StoresNvMem s t rt (s.nvMemBase + 0x270))
        (WritesTcr2El1 s t rt .first (if s.has .SRMASK then s.masks.tcr2El1 else 0))
    else if s.pstate.el = .el2 then
      Tcr2CourseAtEl2 s t (encode (.msrTcr2El1 rt))
        (WritesPlain s t (fun s v => { s with tcr2El2 := v })
          (maskedWrite (s.readX rt) s.tcr2El2 (if s.has .SRMASK then s.masks.tcr2El2 else 0)))
        (WritesTcr2El1 s t rt .first 0)
    else WritesTcr2El1 s t rt .first 0

/-- R402.  The model's choices in it: UNDEFINED without FEAT_VHE (D12 and C16, log entry 15; no line of the
pseudocode tests it), PC + 4 (D5, entry 4), NVMem (D6, entry 7), where UNDEFINED is taken (entry 13), the constant
bits (D3, entry 14), accesses out of order (R560, entry 18), and EL3SDDUndef (entry 34). -/
def Obligations.MrsTcr2El12 : Prop :=
  ∀ (s : State) (rt : Nat), ∃ t, exec (.mrsTcr2El12 rt) s = .next t ∧
    if (s.has .TCR2 && s.has .AA64 && s.has .VHE) = false ∨ s.pstate.el = .el0 then IsUndefined s t
    else if s.pstate.el = .el1 then
      (if s.nvx = 5 then ReadsNvMem s t rt 0x270
      else if s.nvx.getLsbD 0 then TrapsTo s t .el2 (encode (.mrsTcr2El12 rt)) else IsUndefined s t)
    else if s.host2 = false then IsUndefined s t
    else if s.pstate.el = .el2 ∧ s.cfg.haveEL3 = true ∧ s.scrEl3.tcr2en = false then
      (if s.el3SddUndef then IsUndefined s t else TrapsTo s t .el3 (encode (.mrsTcr2El12 rt)))
    else ReadsTcr2El1 s t rt .second

/-- R403; a write under this name is never masked.  The model's choices in it: which older bytes a fetch may return
after a store (R79, log entry 5), UNDEFINED without FEAT_VHE (D12, log entry 15; no line of the pseudocode tests it),
PC + 4 (D5, entry 4), NVMem (D6, entry 7), where UNDEFINED is taken (entry 13), the constant bits (D3, entry 14),
accesses out of order (R560, entry 18), and EL3SDDUndef (entry 34). -/
def Obligations.MsrTcr2El12 : Prop :=
  ∀ (s : State) (rt : Nat), s.mem.wf = true → ∃ t, exec (.msrTcr2El12 rt) s = .next t ∧
    if (s.has .TCR2 && s.has .AA64 && s.has .VHE) = false ∨ s.pstate.el = .el0 then IsUndefined s t
    else if s.pstate.el = .el1 then
      (if s.nvx = 5 then StoresNvMem s t rt (s.nvMemBase + 0x270)
      else if s.nvx.getLsbD 0 then TrapsTo s t .el2 (encode (.msrTcr2El12 rt)) else IsUndefined s t)
    else if s.host2 = false then IsUndefined s t
    else if s.pstate.el = .el2 then
      (if s.cfg.haveEL3 && !s.scrEl3.tcr2en then
        (if s.el3SddUndef then IsUndefined s t else TrapsTo s t .el3 (encode (.msrTcr2El12 rt)))
      else WritesTcr2El1 s t rt .second 0)
    else WritesTcr2El1 s t rt .second 0

/-- R407; the fine-grained trap is that of HFGRTR2_EL2 bit 12, of the value in force (R212, R561).  The model's
choices in it: UNDEFINED without FEAT_SRMASK (D12, log entry 15), PC + 4 (entry 4), NVMem (entry 7), where UNDEFINED
is taken (entry 13), the constant bits (entry 14), that this name is ordered with the others (entry 18), EL3SDDUndef
(entry 34), and TCR2_EL2 as plain storage (entry 36). -/
def Obligations.MrsTcr2aliasEl1 : Prop :=
  ∀ (s : State) (rt : Nat), ∃ t, exec (.mrsTcr2aliasEl1 rt) s = .next t ∧
    ∃ h ∈ s.hfgrtr2El2.val :: s.hfgrtr2El2.unsynced,
      if (s.has .TCR2 && s.has .AA64 && s.has .SRMASK) = false ∨ s.pstate.el = .el0 then IsUndefined s t
      else if s.pstate.el = .el1 then
        Tcr2CourseAtEl1 s t (encode (.mrsTcr2aliasEl1 rt)) s.hcrEl2.trvm
          (s.has .FGT2 && (s.cfg.haveEL3 && !s.scrEl3.fgten2 || !h.getLsbD 12))
          (ReadsNvMem s t rt 0x270) (ReadsTcr2El1 s t rt .unpaired)
      else if s.pstate.el = .el2 then
        Tcr2CourseAtEl2 s t (encode (.mrsTcr2aliasEl1 rt)) (ReadsInto s t rt s.tcr2El2) (ReadsTcr2El1 s t rt .unpaired)
      else ReadsTcr2El1 s t rt .unpaired

/-- R408.  The model's choices in it: which older bytes a fetch may return after a store (R79, log entry 5), UNDEFINED
without FEAT_SRMASK (D12, entry 15), PC + 4 (entry 4), NVMem (entry 7), where UNDEFINED is taken (entry 13), the
constant bits (entry 14), that this name is ordered with the others (entry 18), EL3SDDUndef (entry 34), and TCR2_EL2
as plain storage (entry 36). -/
def Obligations.MsrTcr2aliasEl1 : Prop :=
  ∀ (s : State) (rt : Nat), s.mem.wf = true → ∃ t, exec (.msrTcr2aliasEl1 rt) s = .next t ∧
    if (s.has .TCR2 && s.has .AA64 && s.has .SRMASK) = false ∨ s.pstate.el = .el0 then IsUndefined s t
    else if s.pstate.el = .el1 then
      Tcr2CourseAtEl1 s t (encode (.msrTcr2aliasEl1 rt)) s.hcrEl2.tvm
        (s.has .FGT2 && (s.cfg.haveEL3 && !s.scrEl3.fgten2 || !s.fgt.wnTcr2aliasEl1))
        (StoresNvMem s t rt (s.nvMemBase + 0x270))
        (WritesTcr2El1 s t rt .unpaired s.masks.tcr2El1)
    else if s.pstate.el = .el2 then
      Tcr2CourseAtEl2 s t (encode (.msrTcr2aliasEl1 rt))
        (WritesPlain s t (fun s v => { s with tcr2El2 := v })
          (maskedWrite (s.readX rt) s.tcr2El2 s.masks.tcr2El2))
        (WritesTcr2El1 s t rt .unpaired 0)
    else WritesTcr2El1 s t rt .unpaired 0

/-! ## The accessors of TCR_EL1 -/

/-- R479, with the read-back of TG0 and TG1 (R450, R457).  The model's choices in it: PC + 4 (D5, log entry 4),
NVMem (D6, entry 7), where UNDEFINED is taken (entry 13), the constant bits (D3, entry 14), accesses out of order
(R560, entry 18), TCR_EL2 as plain storage (entry 36), and which of the two read-backs (entry 40). -/
def Obligations.MrsTcrEl1 : Prop :=
  ∀ (s : State) (rt : Nat), ∃ t, exec (.mrsTcrEl1 rt) s = .next t ∧
    if s.has .AA64 = false ∨ s.pstate.el = .el0 then IsUndefined s t
    else if s.pstate.el = .el1 then
      (if s.el2Enabled &&
          (s.hcrEl2.trvm || s.has .FGT && (!s.cfg.haveEL3 || s.scrEl3.fgten) && s.fgt.rTcrEl1) then
        TrapsTo s t .el2 (encode (.mrsTcrEl1 rt))
      else if s.nvx = 7 then ReadsNvMem s t rt 0x120
      else ReadsTcrEl1 s t rt .first)
    else if s.pstate.el = .el2 ∧ s.host2 = true then ReadsInto s t rt s.tcrEl2
    else ReadsTcrEl1 s t rt .first

/-- R480.  The model's choices in it: which older bytes a fetch may return after a store (R79, log entry 5), PC + 4
(D5, entry 4), NVMem (D6, entry 7), where UNDEFINED is taken (entry 13), the constant bits (D3, entry 14), accesses
out of order (R560, entry 18), and TCR_EL2 as plain storage (entry 36). -/
def Obligations.MsrTcrEl1 : Prop :=
  ∀ (s : State) (rt : Nat), s.mem.wf = true → ∃ t, exec (.msrTcrEl1 rt) s = .next t ∧
    if s.has .AA64 = false ∨ s.pstate.el = .el0 then IsUndefined s t
    else if s.pstate.el = .el1 then
      (if s.el2Enabled &&
          (s.hcrEl2.tvm || s.has .FGT && (!s.cfg.haveEL3 || s.scrEl3.fgten) && s.fgt.wTcrEl1) then
        TrapsTo s t .el2 (encode (.msrTcrEl1 rt))
      else if s.nvx = 7 then StoresNvMem s t rt (s.nvMemBase + 0x120)
      else WritesTcrEl1 s t rt .first (if s.has .SRMASK then s.masks.tcrEl1 else 0))
    else if s.pstate.el = .el2 then
      (if s.host2 then
        WritesPlain s t (fun s v => { s with tcrEl2 := v })
          (maskedWrite (s.readX rt) s.tcrEl2 (if s.has .SRMASK then s.masks.tcrEl2 else 0))
      else WritesTcrEl1 s t rt .first 0)
    else WritesTcrEl1 s t rt .first 0

/-- R481.  The model's choices in it: UNDEFINED without FEAT_VHE (D12, log entry 15), PC + 4 (D5, entry 4), NVMem
(D6, entry 7), where UNDEFINED is taken (entry 13), the constant bits (D3, entry 14), accesses out of order (R560,
entry 18), and the read-back of TG0 and TG1 (entry 40). -/
def Obligations.MrsTcrEl12 : Prop :=
  ∀ (s : State) (rt : Nat), ∃ t, exec (.mrsTcrEl12 rt) s = .next t ∧
    if (s.has .AA64 && s.has .VHE) = false ∨ s.pstate.el = .el0 then IsUndefined s t
    else if s.pstate.el = .el1 then
      (if s.nvx = 5 then ReadsNvMem s t rt 0x120
      else if s.nvx.getLsbD 0 then TrapsTo s t .el2 (encode (.mrsTcrEl12 rt)) else IsUndefined s t)
    else if s.host2 = false then IsUndefined s t
    else ReadsTcrEl1 s t rt .second

/-- R482.  The model's choices in it: which older bytes a fetch may return after a store (R79, log entry 5), UNDEFINED
without FEAT_VHE (D12, entry 15), PC + 4 (D5, entry 4), NVMem (D6, entry 7), where UNDEFINED is taken (entry 13), the
constant bits (D3, entry 14), and accesses out of order (R560, entry 18). -/
def Obligations.MsrTcrEl12 : Prop :=
  ∀ (s : State) (rt : Nat), s.mem.wf = true → ∃ t, exec (.msrTcrEl12 rt) s = .next t ∧
    if (s.has .AA64 && s.has .VHE) = false ∨ s.pstate.el = .el0 then IsUndefined s t
    else if s.pstate.el = .el1 then
      (if s.nvx = 5 then StoresNvMem s t rt (s.nvMemBase + 0x120)
      else if s.nvx.getLsbD 0 then TrapsTo s t .el2 (encode (.msrTcrEl12 rt)) else IsUndefined s t)
    else if s.host2 = false then IsUndefined s t
    else WritesTcrEl1 s t rt .second 0

/-- R483; the fine-grained trap is that of HFGRTR2_EL2 bit 11, of the value in force (R212, R561).  The model's
choices in it: UNDEFINED without FEAT_SRMASK (D12, log entry 15), PC + 4 (entry 4), NVMem (entry 7), where UNDEFINED
is taken (entry 13), the constant bits (entry 14), that this name is ordered with the others (entry 18), TCR_EL2 as
plain storage (entry 36), and the read-back of TG0 and TG1 (entry 40). -/
def Obligations.MrsTcraliasEl1 : Prop :=
  ∀ (s : State) (rt : Nat), ∃ t, exec (.mrsTcraliasEl1 rt) s = .next t ∧
    ∃ h ∈ s.hfgrtr2El2.val :: s.hfgrtr2El2.unsynced,
      if (s.has .AA64 && s.has .SRMASK) = false ∨ s.pstate.el = .el0 then IsUndefined s t
      else if s.pstate.el = .el1 then
        (if s.el2Enabled &&
            (s.hcrEl2.trvm || s.has .FGT2 && (s.cfg.haveEL3 && !s.scrEl3.fgten2 || !h.getLsbD 11)) then
          TrapsTo s t .el2 (encode (.mrsTcraliasEl1 rt))
        else if s.nvx = 7 then ReadsNvMem s t rt 0x120
        else ReadsTcrEl1 s t rt .unpaired)
      else if s.pstate.el = .el2 ∧ s.host2 = true then ReadsInto s t rt s.tcrEl2
      else ReadsTcrEl1 s t rt .unpaired

/-- R484.  The model's choices in it: which older bytes a fetch may return after a store (R79, log entry 5), UNDEFINED
without FEAT_SRMASK (D12, entry 15), PC + 4 (entry 4), NVMem (entry 7), where UNDEFINED is taken (entry 13), the
constant bits (entry 14), that this name is ordered with the others (entry 18), and TCR_EL2 as plain storage (entry
36). -/
def Obligations.MsrTcraliasEl1 : Prop :=
  ∀ (s : State) (rt : Nat), s.mem.wf = true → ∃ t, exec (.msrTcraliasEl1 rt) s = .next t ∧
    if (s.has .AA64 && s.has .SRMASK) = false ∨ s.pstate.el = .el0 then IsUndefined s t
    else if s.pstate.el = .el1 then
      (if s.el2Enabled &&
          (s.hcrEl2.tvm || s.has .FGT2 && (s.cfg.haveEL3 && !s.scrEl3.fgten2 || !s.fgt.wnTcraliasEl1)) then
        TrapsTo s t .el2 (encode (.msrTcraliasEl1 rt))
      else if s.nvx = 7 then StoresNvMem s t rt (s.nvMemBase + 0x120)
      else WritesTcrEl1 s t rt .unpaired s.masks.tcrEl1)
    else if s.pstate.el = .el2 ∧ s.host2 = true then
      WritesPlain s t (fun s v => { s with tcrEl2 := v })
        (maskedWrite (s.readX rt) s.tcrEl2 s.masks.tcrEl2)
    else WritesTcrEl1 s t rt .unpaired 0

/-! ## NVMem and the write mask -/

/-- R65, R75, D6: byte `i` of an NVMem read is the byte of memory at that offset, and the byte order is that of
SCTLR_EL2.EE when nothing older is in force.  The base and the byte order are the model's choice (log entry 7). -/
def Obligations.NvMemByteOrder : Prop :=
  ∀ (s : State) (offset : Dword),
    (∀ i < 8, (s.nvMemRead offset).extractLsb' (8 * (if s.nvMemBigEndian then 7 - i else i)) 8 =
      s.byteAt (s.nvMemBase + offset + BitVec.ofNat 64 i).toNat) ∧
    (s.sctlrEl2.unsynced = [] → s.sctlrEl2.stale = [] →
      s.nvMemBigEndian = if s.has .MixedEnd then s.sctlrEl2.val.getLsbD 25 else s.has .BigEnd)

/-- R75 (vectors V180 and V182): under NVx '111', where NVMem accesses do not fault, an MSR of TCR_EL1 followed by
an MRS of it goes through memory and gives the value back, and TCR_EL1 itself is untouched.  The model's choices in
it: NVMem (D6, log entry 7) and PC + 4 (D5, entry 4). -/
def Obligations.NvMemWriteThenRead : Prop :=
  ∀ (s : State) (rt rt' : Nat), s.mem.wf = true → s.sctlrEl2.unsynced = [] → s.sctlrEl2.stale = [] →
    s.nvMemFaults = ⟨false, false⟩ → s.has .AA64 = true → s.pstate.el = .el1 → s.nvx = 7 →
    s.hcrEl2.tvm = false → s.hcrEl2.trvm = false → s.fgt.rTcrEl1 = false → s.fgt.wTcrEl1 = false →
    ∃ t u, exec (.msrTcrEl1 rt) s = .next t ∧ exec (.mrsTcrEl1 rt') t = .next u ∧
      ReadsInto t u rt' (s.readX rt) ∧ u.tcrEl1 = s.tcrEl1

/-- R195. -/
def Obligations.MaskedWriteBits : Prop :=
  ∀ v old m : Dword,
    (∀ i < 64, (maskedWrite v old m).getLsbD i = if m.getLsbD i then old.getLsbD i else v.getLsbD i) ∧
    maskedWrite v old 0 = v ∧ maskedWrite v old 0xFFFFFFFFFFFFFFFF = old ∧
    maskedWrite v (maskedWrite v old m) m = maskedWrite v old m

/-! ## Exceptions -/

/-- R501: EC, IL and ISS stand where the rule places them in ESR_ELx, and the ISS of a trapped accessor holds its
coordinate, its register and its direction.  The layout is R501's general knowledge (log entry 11); what stands in
bits [63:32] is log entry 56. -/
def Obligations.TrapSyndromeFields : Prop :=
  (∀ (upper : BitVec 32) (ec : BitVec 6) (iss : BitVec 25),
    let esr := syndrome upper ec iss
    esr.extractLsb' 26 6 = ec ∧ esr.getLsbD 25 = true ∧ esr.extractLsb' 0 25 = iss ∧ esr.extractLsb' 32 32 = upper) ∧
  ∀ i : Instr, i.WellFormed →
    (accessIss (encode i)).extractLsb' 20 5 = 3 ∧
    (accessIss (encode i)).extractLsb' 17 3 = i.coordinate.op2 ∧
    (accessIss (encode i)).extractLsb' 14 3 = i.coordinate.op1 ∧
    (accessIss (encode i)).extractLsb' 10 4 = i.coordinate.crn ∧
    ((accessIss (encode i)).extractLsb' 5 5).toNat = i.rt ∧
    (accessIss (encode i)).extractLsb' 1 4 = i.coordinate.crm ∧
    (accessIss (encode i)).getLsbD 0 = i.isRead

/-- R512, with R121, R133, R138, R158, R159 and R160: what SCTLR_EL2 does to an exception taken to EL2, for a
register with nothing unsynchronized and a PE outside Debug state.  The model's choices in it: that an entry with
NMI 0 leaves ALLINT alone is D8 (log entry 24); that accumulated tag faults are joined bit by bit and cleared, and
stay pending with ITFSB 0, is log entry 48, and that ITFSB alone decides that is entry 70; that error
synchronization is recorded and does nothing more is C8 and log entry 22; that the entry synchronizes the owned
registers, and no others, is log entry 21. -/
def Obligations.EntryToEl2 : Prop :=
  ∀ (s : State) (kind : ExcKind) (cause : ExcCause) (iss : Option (BitVec 25)),
    s.el2Enabled = true → s.sctlrEl2.unsynced = [] → s.dbgState.halted = false →
    let t := s.takeException kind .el2 cause iss
    let v := s.sctlrEl2.val
    let contextSync := !s.has .ExS || v.getLsbD 22
    let errorSync := s.has .IESB && (s.has .DoubleFault2 && s.sctlr2El2Nmea || v.getLsbD 21)
    t.pstate.pan = (s.host2 && s.hcrEl2.tge && !v.getLsbD 23 || s.pstate.pan) ∧
    t.pstate.ssbs = (if s.has .SSBS then v.getLsbD 44 else s.pstate.ssbs) ∧
    t.pstate.allint = (if s.has .NMI && v.getLsbD 61 then !v.getLsbD 62 else s.pstate.allint) ∧
    t.lastException = some ⟨kind, .el2, cause, iss, contextSync, errorSync⟩ ∧
    (t.tagFaults, t.pendingTagFaults) =
      (if s.has .MTE_ASYNC && v.getLsbD 37 then
        (⟨s.tagFaults.tfsre0El1 ||| s.pendingTagFaults.tfsre0El1, s.tagFaults.tfsrEl1 ||| s.pendingTagFaults.tfsrEl1,
          s.tagFaults.tfsrEl2 ||| s.pendingTagFaults.tfsrEl2⟩, ⟨0, 0, 0⟩)
      else (s.tagFaults, s.pendingTagFaults)) ∧
    (t.sctlrEl2, t.hfgrtr2El2, t.tcrEl1, t.tcr2El1) =
      (if contextSync then
        (s.sctlrEl2.synchronize, s.hfgrtr2El2.synchronize, s.tcrEl1.synchronize, s.tcr2El1.synchronize)
      else (s.sctlrEl2, s.hfgrtr2El2, s.tcrEl1, s.tcr2El1))

/-- R446, R447, R513: the address stored to the PC on an exception to EL1, for a TCR_EL1 with nothing older in force.
The vector entry itself is the interface of R521 (log entry 11). -/
def Obligations.EntryToEl1TopByte : Prop :=
  ∀ (s : State) (kind : ExcKind) (cause : ExcCause) (iss : Option (BitVec 25)),
    s.tcrEl1.unsynced = [] → s.tcrEl1.stale = [] →
    let handler := s.bankEl1.vbar + vectorOffset s.cfg.entry s.pstate.el .el1 s.pstate.sp
    let v := s.tcrEl1.val
    (s.takeException kind .el1 cause iss).pc =
      if handler.getLsbD 55 then
        (if v.getLsbD 38 && !(s.has .PAuth && v.getLsbD 52) then handler ||| 0xFF00000000000000 else handler)
      else (if v.getLsbD 37 && !(s.has .PAuth && v.getLsbD 51) then handler &&& 0x00FFFFFFFFFFFFFF else handler)

/-- R160, R170, R514, R561, R562: an exception return from EL1, EL2 or EL3 restores PSTATE from the SPSR and the PC
from the ELR of the level.  It is a context synchronization event, from EL2 unless FEAT_ExS and EOS 0; the error
synchronization event before it is added at EL2 only, by the Effective IESB, which is not stated in Debug state.
The PC is the ELR itself for a return to EL2 or EL3, or to EL0 in a host; for a return to EL1, or to EL0 elsewhere,
it goes through TBI and TBID of TCR_EL1 (R446, R447, R513), here for a TCR_EL1 with nothing older in force.  The
model's choices in it: which returns are refused, that no other check is made, and that EL1 and EL3 return as EL2
does, is log entry 39 (of a level that is not using AArch64, entry 63); that nothing but EOS switches the
synchronization off is entry 21; that error synchronization is recorded and does nothing more is C8 and entry 22;
the place of PSTATE in an SPSR is the family's, entry 11; which addresses the top-byte rule covers is entry 50. -/
def Obligations.ReturnFromException : Prop :=
  ∀ s : State,
    let source := s.pstate.el
    let saved := pstateOfSpsr (s.bank source).spsr
    let a := (s.bank source).elr
    (source = .el0 ∨ source.code < saved.el.code ∨ s.cfg.haveEL saved.el = false ∨
        s.runsA64At saved.el = false →
      s.exceptionReturn = .refused .returnOutsideSpec) ∧
    (source ≠ .el0 → saved.el.code ≤ source.code → s.cfg.haveEL saved.el = true → s.runsA64At saved.el = true →
      (source = .el2 → s.el2Enabled = true) → s.sctlrEl2.unsynced = [] →
      let v := s.sctlrEl2.val
      let contextSync := source != .el2 || !s.has .ExS || v.getLsbD 11
      ∃ t errorSync, s.exceptionReturn = .next t ∧
        (saved.el = .el2 ∨ saved.el = .el3 ∨ (saved.el = .el0 ∧ s.host0 = true) → t.pc = a) ∧
        (saved.el = .el1 ∨ (saved.el = .el0 ∧ s.host0 = false) → s.tcrEl1.unsynced = [] → s.tcrEl1.stale = [] →
          let w := s.tcrEl1.val
          t.pc =
            if a.getLsbD 55 then
              (if w.getLsbD 38 && !(s.has .PAuth && w.getLsbD 52) then a ||| 0xFF00000000000000 else a)
            else (if w.getLsbD 37 && !(s.has .PAuth && w.getLsbD 51) then a &&& 0x00FFFFFFFFFFFFFF else a)) ∧
        (s.dbgState.halted = false → errorSync =
          (source == .el2 && s.has .IESB && (s.has .DoubleFault2 && s.sctlr2El2Nmea || v.getLsbD 21))) ∧
        (source ≠ .el2 → errorSync = false) ∧
        t = { (if contextSync then s.contextSync else s) with
          pstate := saved, pc := t.pc, freeCount := t.freeCount
          lastReturn := some ⟨source, saved.el, contextSync, errorSync⟩ })

/-- A step that changes the Exception level raised it by taking an exception: the record names the new level, its ELR
holds the address of the instruction (D5, log entry 4), and control is at its vector (R501, R502, R521; log entry 11).
-/
def Obligations.LevelRisesByExceptionOnly : Prop :=
  ∀ s t : State, step s = .next t → t.pstate.el ≠ s.pstate.el →
    s.pstate.el.code < t.pstate.el.code ∧ (t.bank t.pstate.el).elr = s.pc ∧ EntersHandler s t t.pstate.el ∧
    ∃ kind cause iss cs es, t.lastException = some ⟨kind, t.pstate.el, cause, iss, cs, es⟩

/-! ## Whole-machine rules -/

/-- R503: no register of this spec is readable or writable at EL0: every accessor there ends in an exception to EL1
or EL2 (which of them, for an UNDEFINED accessor, is R502's general knowledge, log entry 13) and leaves the general
registers, memory and the registers the accessors name as they were. -/
def Obligations.El0ReachesNoRegister : Prop :=
  ∀ (s : State) (i : Instr), s.pstate.el = .el0 → ∃ t, exec i s = .next t ∧
    (t.pstate.el = .el1 ∨ t.pstate.el = .el2) ∧ t.x = s.x ∧ t.mem = s.mem ∧
    t.sctlrEl2.val = s.sctlrEl2.val ∧ t.hfgrtr2El2.val = s.hfgrtr2El2.val ∧ t.tcrEl1.val = s.tcrEl1.val ∧
    t.tcr2El1.val = s.tcr2El1.val ∧ t.sctlrEl1 = s.sctlrEl1 ∧ t.tcrEl2 = s.tcrEl2 ∧ t.tcr2El2 = s.tcr2El2

/-- R503: no step at EL0 or EL1 changes the value of a register of EL2 that the accessors reach. -/
def Obligations.LowerLevelsLeaveEl2Registers : Prop :=
  ∀ s t : State, s.pstate.el = .el0 ∨ s.pstate.el = .el1 → step s = .next t →
    t.sctlrEl2.val = s.sctlrEl2.val ∧ t.hfgrtr2El2.val = s.hfgrtr2El2.val ∧ t.tcrEl2 = s.tcrEl2 ∧
      t.tcr2El2 = s.tcr2El2

/-- R24, R31, R33, R555: no step changes the configuration (the four ID constants among it), the control inputs, the
stack pointers, the vector bases or the registers that are only named. -/
def Obligations.StepKeepsConfigurationAndInputs : Prop :=
  ∀ s t : State, step s = .next t →
    t.cfg = s.cfg ∧ t.el2Aarch32 = s.el2Aarch32 ∧ t.hcrEl2 = s.hcrEl2 ∧ t.hcrxEl2 = s.hcrxEl2 ∧
    t.scrEl3 = s.scrEl3 ∧ t.fgt = s.fgt ∧
    t.masks = s.masks ∧ t.nvMemBase = s.nvMemBase ∧ t.nvMemFaults = s.nvMemFaults ∧ t.dbgState = s.dbgState ∧
    t.tcr2El2Pie = s.tcr2El2Pie ∧
    t.sctlr2El2Nmea = s.sctlr2El2Nmea ∧ t.controlled = s.controlled ∧ t.named = s.named ∧
    t.spEl0 = s.spEl0 ∧ t.spEl1 = s.spEl1 ∧ t.spEl2 = s.spEl2 ∧ t.spEl3 = s.spEl3 ∧
    t.bankEl1.vbar = s.bankEl1.vbar ∧ t.bankEl2.vbar = s.bankEl2.vbar ∧ t.bankEl3.vbar = s.bankEl3.vbar ∧
    t.wfeCycles = s.wfeCycles

/-- Every step keeps the invariant: memory in canonical form, instruction addresses aligned (R70), the current level
implemented (R24) and not under an EL2 using AArch32 (log entry 63), the reserved bits of every value of an owned
register at their constants (D3), the reads in flight consistent (R560), `NVMemBase` 4KB-aligned (D6), and the ID
constants and the feature set as the field rules tie them (R25), the granules of TG_FALLBACK implemented (R450,
R457) and nERXGSR_EL1 RES0 only where R227 permits it. -/
def Obligations.StepKeepsInvariant : Prop := ∀ s t : State, s.Inv → step s = .next t → t.Inv

/-- The state right after reset meets the invariant.  Its configuration and every value that no rule gives are the
model's choices (log entries 1, 6, 8, 9 and 10). -/
def Obligations.ResetMeetsInvariant : Prop := State.reset.Inv

/-! ## Reset -/

/-- R551: what a Warm reset guarantees of SCTLR_EL2, whatever the UNKNOWN fields are.  That its constant bits hold
their constants, bit 25 without FEAT_MixedEnd among them, is D3 (log entry 14). -/
def Obligations.WarmResetSctlrEl2 : Prop :=
  ∀ (s : State) (i : ResetInputs), let t := s.warmReset i
    (s.cfg.highestEL = .el2 → t.sctlrEl2.val &&& 0x2000000000001005 = 0) ∧
    (s.has .SSBS = true → t.sctlrEl2.val.getLsbD 44 = s.cfg.dssbsReset) ∧
    t.sctlrEl2.val.getLsbD 25 = (if s.has .MixedEnd then s.cfg.eeReset else s.has .BigEnd) ∧
    (sctlrConstants s.cfg).apply t.sctlrEl2.val = t.sctlrEl2.val ∧ t.cfg = s.cfg

/-- R552, R553, R554: what it guarantees of HFGRTR2_EL2, TCR2_EL1 and TCR_EL1.  That the reserved bits are 0 is D3
(log entry 14). -/
def Obligations.WarmResetOtherRegisters : Prop :=
  ∀ (s : State) (i : ResetInputs), let t := s.warmReset i
    (s.cfg.highestEL = .el2 → t.hfgrtr2El2.val = 0) ∧ t.hfgrtr2El2.val &&& 0xFFFFFFFFFFFF8000 = 0 ∧
    t.tcr2El1.val &&& 0xFFFFFFFFFFC833C0 = 0 ∧
    (s.cfg.haveEL2 = false → s.cfg.haveEL3 = false → t.tcr2El1.val &&& 0x0C3F = 0) ∧
    t.tcrEl1.val &&& 0xC000000800000040 = 0

/-- R555: the value of an ID register before and after any reset is the same configuration constant. -/
def Obligations.IdRegistersKeptByReset : Prop :=
  ∀ (s : State) (i : ResetInputs), ∀ r ∈ [SysReg.idAa64dfr0, .idAa64isar1, .idAa64isar2, .idAa64smfr0],
    (s.warmReset i).storedValue r = s.storedValue r ∧ (s.warmReset i).readReg r = s.readReg r

/-! ## Fields -/

/-- R130, R164, R172, R213, R355, R383, R422: the bits that no field ever occupies are RES0.  That they read as 0,
whatever is stored, is the model's choice D3 (a) (log entry 14; entry 41 for ID_AA64SMFR0_EL1). -/
def Obligations.ReservedBitsReadZero : Prop :=
  ∀ (s : State) (n : AccessName),
    s.readReg (.sctlrEl2 n) &&& 0x003C000000020200 = 0 ∧
    s.readReg .hfgrtr2El2 &&& 0xFFFFFFFFFFFF8000 = 0 ∧
    s.readReg (.tcr2El1 n) &&& 0xFFFFFFFFFFC833C0 = 0 ∧
    s.readReg (.tcrEl1 n) &&& 0xC000000800000040 = 0 ∧
    s.readReg .idAa64smfr0 &&& 0x600E00008C7EFFFE = 0

/-- R23: the bits of SCTLR_EL2 that act as 1 outside a host, on an implementation that is little-endian only; the rule
leaves FEAT_BigEndEL0, under which R22 makes bit 24 RES1 too, unsaid (log entry 49). -/
def Obligations.SctlrRes1Masks : Prop :=
  ∀ c : Config, c.has .BigEnd = false → c.has .BigEndEL0 = false →
    (sctlrFields.filter (fun f => sctlrStatus c false false f == .res1)).foldl
        (fun m f => m ||| fieldMask f.lo f.width) 0 =
      if c.has .ExS then 0x0000000030850030 else 0x0000000030C50830

/-- R382, R405: the fields of TCR2_EL1 act as 0 while it is ignored; with D128 set AIE and PIE act as 1, PnCH as 0,
and DisCH0 and DisCH1 are fields.  The model's choices in it: that the first wins over the second is D11 (log entry
27), that SCR_EL3 does not matter without EL3 is D9 (entry 25), and that the stored bits act on a PE without
FEAT_TCR2 too is entry 52. -/
def Obligations.Tcr2EffectiveValues : Prop :=
  ∀ (s : State) (v : Dword),
    (s.el2Enabled && !(s.hcrxEnabled && s.hcrxEl2.tcr2en) || s.cfg.haveEL3 && !s.scrEl3.tcr2en →
      ∀ f : Tcr2Field, tcr2Value s v f = false) ∧
    (s.tcr2Ignored = false → s.has .D128 = true → v.getLsbD 5 = true →
      tcr2Value s v .d128 = true ∧ tcr2Value s v .aie = s.has .AIE ∧ tcr2Value s v .pie = s.has .S1PIE ∧
      tcr2Value s v .pnch = false ∧ tcr2Value s v .disCH0 = v.getLsbD 14 ∧ tcr2Value s v .disCH1 = v.getLsbD 15) ∧
    (s.tcr2Ignored = false → s.has .D128 = true → v.getLsbD 5 = false →
      tcr2Value s v .disCH0 = false ∧ tcr2Value s v .disCH1 = false)

/-- R134, R135, R141, R142, R160, R162: the Effective values of ATA, ATA0, EnFPM, MSCEn, IESB (outside Debug state)
and WXN in every context; and R21(b): with EL2 not enabled no field has an effect, on anything a function of the
model takes from the register.  The model's choices in it: that SCR_EL3.ATA does not matter without EL3 is D9 (log
entry 25), that a reserved field acts as its constant is D3 (entry 14), that entry and return then synchronize
is entry 21, and that {E2H, TGE} is not {1, 1} under an EL2 using AArch32 is entry 63. -/
def Obligations.SctlrEffectiveValues : Prop :=
  ∀ (s : State) (v : Dword),
    (effAta s v = ((!s.cfg.haveEL3 || s.scrEl3.ata) && s.has .MTE2 && v.getLsbD 43)) ∧
    (effAta0 s v = ((!s.cfg.haveEL3 || s.scrEl3.ata) && s.has .MTE2 && s.host2 && v.getLsbD 42)) ∧
    (effEnFpm s v = (!s.el2Enabled || (s.has .FPMR && s.host0 && v.getLsbD 34))) ∧
    (effMscen s v = (s.has .MOPS && (!s.host0 || v.getLsbD 33))) ∧
    (s.dbgState.halted = false →
      ∀ n, effIesb s v n = (s.has .DoubleFault2 && s.sctlr2El2Nmea || s.has .IESB && v.getLsbD 21)) ∧
    (effWxn s v = (v.getLsbD 0 && !s.tcr2El2Pie && v.getLsbD 19)) ∧
    (s.el2Enabled = false →
      (stage1EnabledEl2 s v = false ∧ stageOffInstructionAttributes s v = none ∧
        (∀ r, walkCacheability s v r = .unaffected) ∧
        (∀ el, dataCacheability s v el = .unaffected ∧ instructionCacheability s v el = .unaffected)) ∧
      (bigEndianEl2 s v = none ∧ bigEndianUnprivilegedAtEl2 s v = none ∧ (∀ r stage, walkBigEndian s v r stage = none) ∧
        bigEndianEl0 s v = (if s.has .MixedEndEL0 then none else some (s.has .BigEndEL0))) ∧
      (memoryTaggingEl2 s v = none ∧ memoryTaggingEl0 s v = none ∧ tcfEl2 s v = none ∧ tcfEl0 s v = none ∧
        readsUncheckedEl2 s v = false ∧ readsUncheckedEl0 s v = false ∧ ∀ r, tagCheckFault s v r = none) ∧
      ((∀ k, pauthEnabled s v k = none) ∧ ∀ i, implicitBti s v i = none) ∧
      (spAlignmentFault s v = none ∧ (∀ a n, alignmentFault s v a n = none) ∧
        (∀ o a n z d, alignment16Fault s v o a n z d = none) ∧ (∀ d, loadStoreMultipleFault s v d = none) ∧
        loadStoreMultipleUnordered s v = false ∧ (∀ d i, panFault s v d i = none) ∧
        (∀ op w, cmowFault s v op w = none) ∧ ∀ w, wxnFault s v w = none) ∧
      ((∀ f, nmiEnables s v f = false) ∧ maskedBySp s v = false ∧ ∀ i, interruptMaskedBySp s v i = false) ∧
      (entrySetsPan s v = false ∧ (∀ old, entrySsbs s v old = old ∧ entryAllint s v old = old) ∧
        entrySynchronizes s v = true ∧ returnSynchronizes s v = true ∧ entrySyncsTagFaults s v = false ∧
        ∀ n p, errorSyncAdded s v n p = false) ∧
      ((∀ e, el0Control s v e = .proceed) ∧ (∀ w, waitTrapped s v w = false) ∧
        scxtnumAtEl0 s v = s.controlled.scxtnumEl0 ∧ dczidDzpRead s v = s.controlled.dczidEl0Dzp))

/-- R505, R506: outside EL0 under a host with TGE 1 no field of SCTLR_EL2 traps an instruction or makes it UNDEFINED,
whatever the register holds. -/
def Obligations.El0ControlsNeedHost : Prop :=
  ∀ (s : State) (v : Dword) (e : El0Event),
    s.pstate.el ≠ .el0 ∨ s.host2 = false ∨ s.hcrEl2.tge = false → el0Control s v e = .proceed

/-- R120, R123, R127, R128, R129, R141, R142, R155, R161, R166, R167, R171, R173, R174, R176, R504 to R506: at EL0
under a host with TGE 1, the outcome of every event that a field of SCTLR_EL2 gates: the code of its trap, or
UNDEFINED, and exactly when.  The model's choices in it: which MRS, MSR, MRRS and MSRR are in the TIDCP sets is log
entry 17, the codes of UCT, DZE, TSCXT and EnRCTX are parameters (D15, entry 29), what an absent CP15BEN is, is one
too (entry 14), which features mean that SETEND can be enabled (FEAT_MixedEnd or FEAT_MixedEndEL0, as R173 speaks of
mixed-endian operation) is entry 66, and that TSCXT traps only as a field, not as RES1, is entry 72. -/
def Obligations.El0TrapCodes : Prop :=
  ∀ (s : State) (v : Dword), s.pstate.el = .el0 → s.host2 = true → s.hcrEl2.tge = true →
    let trap := fun (c : Bool) (ec : BitVec 6) (iss : Option (BitVec 25)) =>
      if c then ControlOutcome.trapToEl2 ec iss else .proceed
    let undef := fun (c : Bool) => if c then ControlOutcome.undefined else .proceed
    let tidcp := s.has .TIDCP1 && v.getLsbD 63
    let mte := s.has .MTE
    (∀ n, el0Control s v (.implementationDefined (.sys n)) = trap (tidcp && (n == 11 || n == 15)) 0x18 none) ∧
    (∀ n, el0Control s v (.implementationDefined (.sysp n)) = trap (tidcp && (n == 11 || n == 15)) 0x14 none) ∧
    (∀ n, el0Control s v (.implementationDefined (.mrsMsr n)) = trap (tidcp && (n == 11 || n == 15)) 0x18 none) ∧
    (∀ n, el0Control s v (.implementationDefined (.mrrsMsrr n)) = trap (tidcp && (n == 11 || n == 15)) 0x14 none) ∧
    (∀ p n m, el0Control s v (.implementationDefined (.mcrMrc p n m)) =
      trap (tidcp && p == 15 && (n == 9 && [0, 1, 2, 5, 6, 7, 8].contains m || n == 10 && [0, 1, 4, 8].contains m ||
        n == 11 && [0, 1, 2, 3, 4, 5, 6, 7, 8, 15].contains m)) 0x03 none) ∧
    el0Control s v .tpidr2Access = trap (s.has .SME && !v.getLsbD 60) 0x18 none ∧
    el0Control s v .ld64bSt64b = trap (s.has .LS64 && !v.getLsbD 56) 0x0A (some 2) ∧
    el0Control s v .st64bv0 = trap (s.has .LS64_ACCDATA && !v.getLsbD 55) 0x0A (some 1) ∧
    el0Control s v .st64bv = trap (s.has .LS64_V && !v.getLsbD 54) 0x0A (some 0) ∧
    (∀ higherPriority, el0Control s v (.fpmrDirect higherPriority) =
      trap (s.has .FPMR && !v.getLsbD 34 && !higherPriority) 0x18 none) ∧
    el0Control s v .fp8Indirect = undef (s.has .FPMR && !v.getLsbD 34) ∧
    (∀ op, el0Control s v (.cacheMaintenance op) =
      trap (!v.getLsbD 26 &&
        ([CacheOp.dcCvau, .dcCivac, .dcCvac, .icIvau].contains op ||
          mte && [CacheOp.dcCigvac, .dcCigdvac, .dcCgvac, .dcCgdvac].contains op ||
          s.has .DPB && (op == .dcCvap || mte && [CacheOp.dcCgvap, .dcCgdvap].contains op) ||
          s.has .DPB2 && (op == .dcCvadp || mte && [CacheOp.dcCgvadp, .dcCgdvadp].contains op) ||
          s.has .OCCMO && [CacheOp.dcCivaoc, .dcCigdvaoc, .dcCvaoc, .dcCgdvaoc].contains op)) 0x18 none) ∧
    el0Control s v .scxtnumAccess =
      trap ((s.has .CSV2_2 || s.has .CSV2_1p2) && v.getLsbD 20) s.cfg.trapCodes.tscxt none ∧
    el0Control s v .ctrAccess = trap (!v.getLsbD 15) s.cfg.trapCodes.uct none ∧
    (∀ op, el0Control s v (.zeroBlock op) =
      trap (!v.getLsbD 14 && (op == .dcZva || mte)) s.cfg.trapCodes.dze none) ∧
    (∀ op, el0Control s v (.rctx op) =
      trap (s.has .SPECRES && !v.getLsbD 10 && (op != .cosp || s.has .SPECRES2)) s.cfg.trapCodes.enrctx none) ∧
    el0Control s v .memoryCopySet = undef (s.has .MOPS && !v.getLsbD 33) ∧
    el0Control s v .setend =
      undef (s.has .AA32EL0 && (v.getLsbD 8 || !(s.has .MixedEnd || s.has .MixedEndEL0))) ∧
    (∀ hw1, el0Control s v (.itBlock hw1) =
      undef (s.has .AA32EL0 && s.cfg.itdImplemented && v.getLsbD 7 && hw1.extractLsb' 0 4 != 8)) ∧
    (∀ hw1, el0Control s v (.afterIt hw1) =
      undef (s.has .AA32EL0 && s.cfg.itdImplemented && v.getLsbD 7 &&
        (hw1.extractLsb' 14 2 == 0b11 || hw1.extractLsb' 12 4 == 0b1011 || hw1.extractLsb' 11 5 == 0b10100 ||
          hw1.extractLsb' 11 5 == 0b01001 ||
          hw1.extractLsb' 12 4 == 0b0100 && hw1.getLsbD 10 && hw1.extractLsb' 3 4 == 0b1111 ||
          hw1.extractLsb' 10 6 == 0b010001 && hw1.getLsbD 7 && hw1.extractLsb' 0 3 == 0b111))) ∧
    el0Control s v .cp15Barrier =
      undef (s.has .AA32EL0 && !(if s.cfg.cp15benImplemented then v.getLsbD 5 else s.cfg.cp15benFixed))

/-- R67, R175: with FEAT_LSE2 a listed load-acquire or store-release faults when the bytes it accesses (for LDIAPP
and STILP, those of one register; where the second register's bytes stand is log entry 57) are not within one
naturally aligned 16-byte quantity and nAA is 0, at EL2 and, with {E2H, TGE} = {1, 1}, at EL0; `false` says that it
has its acquire semantics. -/
def Obligations.SixteenByteRule : Prop :=
  ∀ (s : State) (v a : Dword) (o : OrderedAccess) (n draw : Nat), s.has .LSE2 = true → o.listed s.cfg = true →
    s.el2Enabled = true →
    alignment16Fault s v o a n false draw =
      if (s.pstate.el = .el2 ∨ (s.pstate.el = .el0 ∧ s.host0 = true)) ∧ v.getLsbD 6 = false ∧
          ((a >>> 4) ≠ ((a + BitVec.ofNat 64 n - 1) >>> 4) ∨
            (o = .lrcpc3Pair ∧ ((a + BitVec.ofNat 64 n) >>> 4) ≠
              ((a + BitVec.ofNat 64 n + BitVec.ofNat 64 n - 1) >>> 4))) then some .alignment16Byte
      else none

/-- R212, R226, R508: a field of HFGRTR2_EL2 traps a read of its target at EL1, with code 0x18, or 0x14 for an MRRS
of RCWSMASK_EL1, exactly when its Effective value is 0 and the read generates no higher priority exception.  That
nERXGSR_EL1 traps when it is RES0 although FEAT_RASv2 is implemented is the model's choice (DEDUCED, log entry 60).
-/
def Obligations.Fgt2Traps : Prop :=
  ∀ (s : State) (v : Dword) (g : Fgt2Target) (higherPriority : Bool),
    fgt2TrapCode s v g .mrs higherPriority =
      (if s.pstate.el = .el1 ∧ s.el2Enabled = true ∧ s.has .FGT2 = true ∧ effFgt2 s v g = false ∧
          higherPriority = false then some 0x18
      else none) ∧
    (fgt2TrapCode s v g .mrrs higherPriority = some 0x14 ↔
      g = .rcwsmask ∧ fgt2TrapCode s v g .mrs higherPriority = some 0x18)

/-- R131, R132, R163, R165, R516, R570: what a wait instruction does, in every case.  It completes at once unless it
would enter the low-power state, and may complete there at any time.  At EL0 under a host with TGE 1 and its control
bit 0 it is trapped to EL2: WFI and WFIT at once, WFE and WFET no earlier than the delay, which is 2^(TWEDEL + 8)
cycles when TWEDEn is 1, and possibly later.  Otherwise it waits.  The model's choices in it: the codes are parameters
(D15, log entry 29), and the delay with TWEDEn 0 and the trap put off past the delay are entry 30. -/
def Obligations.WaitTrapDelay : Prop :=
  ∀ (s : State) (v : Dword) (w : WaitInstr) (lowPower mayComplete trapsLater : Bool),
    waitOutcome s v w lowPower mayComplete trapsLater =
      if lowPower = false ∨ mayComplete = true then .complete
      else if s.pstate.el = .el0 ∧ s.host2 = true ∧ s.hcrEl2.tge = true ∧
          (w = .wfet ∨ w = .wfit → s.has .WFxT = true) then
        if w = .wfi ∨ w = .wfit then (if v.getLsbD 16 then .waiting else .trapToEl2 s.cfg.trapCodes.ntwi)
        else
          let delay :=
            if s.has .TWED then
              (if v.getLsbD 45 then 2 ^ ((v.extractLsb' 46 4).toNat + 8) else s.cfg.twedDefaultDelay)
            else 0
          if v.getLsbD 18 = false ∧ trapsLater = false ∧ delay ≤ s.wfeCycles then .trapToEl2 s.cfg.trapCodes.ntwe
          else .waiting
      else .waiting

/-! ## When a write takes effect -/

/-- R561: at EL3 a direct read of a register after a direct write by the same name returns the new value, with the
constant bits of the implementation (D3, log entry 14) and, of TCR_EL1, with TG0 and TG1 as `tcrReadBack` says: as
programmed, or the size chosen where TG_READBACK says so (R450, R457; DEDUCED, log entry 40).  For TCR_EL1 and
TCR2_EL1, whose two names meet at EL3 in host, it is with no access in flight.  PC + 4 is D5 (log entry 4). -/
def Obligations.WritesReadBack : Prop :=
  ∀ (s : State) (rt rt' : Nat), s.has .AA64 = true → s.pstate.el = .el3 → s.cfg.haveEL2 = true →
    (∃ t u, exec (.msrSctlrEl2 rt) s = .next t ∧ exec (.mrsSctlrEl2 rt') t = .next u ∧
      ReadsInto t u rt' ((sctlrConstants s.cfg).apply (s.readX rt) ||| sctlrReservedOnes s.cfg s.host2 s.host0)) ∧
    (s.has .FGT2 = true → ∃ t u, exec (.msrHfgrtr2El2 rt) s = .next t ∧ exec (.mrsHfgrtr2El2 rt') t = .next u ∧
      ReadsInto t u rt' ((hfgrtr2Constants s.cfg).apply (s.readX rt))) ∧
    (s.has .TCR2 = true → s.tcr2El1.tail = [] →
      ∃ t u, exec (.msrTcr2El1 rt) s = .next t ∧ exec (.mrsTcr2El1 rt') t = .next u ∧
      ReadsInto { t with tcr2El1 := u.tcr2El1 } u rt' ((tcr2Constants s.cfg).apply (s.readX rt))) ∧
    (s.tcrEl1.tail = [] → ∃ t u, exec (.msrTcrEl1 rt) s = .next t ∧ exec (.mrsTcrEl1 rt') t = .next u ∧
      ReadsInto { t with tcrEl1 := u.tcrEl1 } u rt' (tcrReadBack s.cfg ((tcrConstants s.cfg).apply (s.readX rt))))

/-- R190(a), R195, R399, R478, R560, R561: two names of one register with no access in flight, each of them written
first: SCTLR_EL1 and SCTLR_EL2 at EL2 in host, under the write mask of FEAT_SRMASK; TCR_EL1 and TCR_EL12, and TCR2_EL1
and TCR2_EL12, at EL3 in host.  The model's choices in it: every value is with the constant bits of D3 (log entry 14),
TG0 and TG1 read back as entry 40 says, and how far the order may differ is entry 18. -/
def Obligations.OtherNameReadsOldOrNew : Prop :=
  ∀ s : State, s.has .AA64 = true → s.host2 = true →
    (s.pstate.el = .el2 → s.sctlrEl2.tail = [] →
      let names := UnorderedNames s (·.sctlrEl2) (fun s r => { s with sctlrEl2 := r }) (sctlrConstants s.cfg)
        (fun v => (sctlrConstants s.cfg).apply v ||| sctlrReservedOnes s.cfg s.host2 s.host0)
        (if s.has .SRMASK then s.masks.sctlrEl2 else 0)
      names .msrSctlrEl1 .mrsSctlrEl1 .msrSctlrEl2 .mrsSctlrEl2 ∧
        names .msrSctlrEl2 .mrsSctlrEl2 .msrSctlrEl1 .mrsSctlrEl1) ∧
    (s.pstate.el = .el3 → s.tcrEl1.tail = [] →
      let names := UnorderedNames s (·.tcrEl1) (fun s r => { s with tcrEl1 := r }) (tcrConstants s.cfg)
        (tcrReadBack s.cfg) 0
      names .msrTcrEl12 .mrsTcrEl12 .msrTcrEl1 .mrsTcrEl1 ∧ names .msrTcrEl1 .mrsTcrEl1 .msrTcrEl12 .mrsTcrEl12) ∧
    (s.has .TCR2 = true → s.pstate.el = .el3 → s.tcr2El1.tail = [] →
      let names := UnorderedNames s (·.tcr2El1) (fun s r => { s with tcr2El1 := r }) (tcr2Constants s.cfg)
        (tcr2Constants s.cfg).apply 0
      names .msrTcr2El12 .mrsTcr2El12 .msrTcr2El1 .mrsTcr2El1 ∧
        names .msrTcr2El1 .mrsTcr2El1 .msrTcr2El12 .mrsTcr2El12)

/-- R72, R561, R563: until a context synchronization event each field of a written register may be in force as it
was or as it was written; after one a field that no TLB may hold is in force as written, EPD0 and EPD1 that were 1
among them; and after a TLB invalidation too the whole register is.  Each field by itself, and every earlier value, is
the model's reading (log entries 19 and 20); the constant bits are D3 (entry 14). -/
def Obligations.WriteTakesEffect : Prop :=
  ∀ (s t : State) (rt : Nat), s.has .AA64 = true → s.pstate.el = .el3 → s.cfg.haveEL2 = true →
    (s.sctlrEl2.quiet = true → exec (.msrSctlrEl2 rt) s = .next t →
      TakesEffect s.sctlrEl2 t.sctlrEl2 (sctlrViewFields s.cfg) ((sctlrConstants s.cfg).apply (s.readX rt))) ∧
    (s.has .FGT2 = true → s.hfgrtr2El2.quiet = true → exec (.msrHfgrtr2El2 rt) s = .next t →
      TakesEffect s.hfgrtr2El2 t.hfgrtr2El2 hfgrtr2ViewFields ((hfgrtr2Constants s.cfg).apply (s.readX rt))) ∧
    (s.has .TCR2 = true → s.tcr2El1.quiet = true → exec (.msrTcr2El1 rt) s = .next t →
      TakesEffect s.tcr2El1 t.tcr2El1 tcr2ViewFields ((tcr2Constants s.cfg).apply (s.readX rt))) ∧
    (s.tcrEl1.quiet = true → exec (.msrTcrEl1 rt) s = .next t →
      TakesEffect s.tcrEl1 t.tcrEl1 tcrViewFields ((tcrConstants s.cfg).apply (s.readX rt)))
end

