-- ==== Sys2Proof/Laws/Hazards.lean ====
section
/-! SUPPORT. What a draw among alternatives can give, what a direct read and a direct write of an owned register do to
it, and what of it may be in force. -/

namespace Sys2Proof.Machine

/-! ## Draws and earlier values -/

/-- A draw gives the current value or one of the alternatives. -/
theorem chooseAmong_mem {α : Type} [DecidableEq α] (cur : α) (alts : List α) (k : Nat) :
    chooseAmong cur alts k ∈ cur :: alts := by
  unfold chooseAmong
  split
  · exact List.mem_cons_self
  · have h : k % (alts.length + 1) < (cur :: alts).length := by simpa using Nat.mod_lt _ (Nat.succ_pos _)
    rw [List.getD_eq_getElem _ _ h]
    exact List.getElem_mem h

/-- With no alternative that differs there is nothing to draw. -/
theorem chooseAmong_of_agree {α : Type} [DecidableEq α] (cur : α) (alts : List α) (k : Nat)
    (h : ∀ a ∈ alts, a = cur) : chooseAmong cur alts k = cur := by
  unfold chooseAmong
  rw [if_pos]
  simpa [List.all_eq_true] using h

@[simp] theorem chooseAmong_nil {α : Type} [DecidableEq α] (cur : α) (k : Nat) : chooseAmong cur [] k = cur :=
  chooseAmong_of_agree cur [] k (by simp)

theorem mem_remember {v w : Dword} {l : List Dword} : w ∈ remember v l ↔ w = v ∨ w ∈ l := by
  unfold remember
  split
  · rename_i h
    constructor
    · exact .inr
    · rintro (rfl | h')
      · simpa using h
      · exact h'
  · simp

theorem mem_rememberAll {w : Dword} {vs l : List Dword} : w ∈ rememberAll vs l ↔ w ∈ vs ∨ w ∈ l := by
  induction vs with
  | nil => simp [rememberAll]
  | cons v vs ih =>
    show w ∈ remember v (rememberAll vs l) ↔ _
    rw [mem_remember, ih, List.mem_cons, or_assoc]

/-- A place drawn is one of the places, or the last one when there are none. -/
theorem drawPlace_mem (places : List Nat) (last n : Nat) :
    drawPlace places last n = last ∨ drawPlace places last n ∈ places := by
  unfold drawPlace
  split
  · exact .inl rfl
  · exact .inr (by simp)
  · rename_i k l _
    right
    have h : Config.freeChoice n % (l.length + 1) < (k :: l).length := by
      simpa using Nat.mod_lt _ (Nat.succ_pos _)
    rw [List.getD_eq_getElem _ _ h]
    exact List.getElem_mem h

theorem ownEnd_le (name : AccessName) (l : List NamedAccess) : ownEnd name l ≤ l.length := by
  induction l with
  | nil => simp [ownEnd]
  | cons e l ih =>
    unfold ownEnd
    split <;> simp only [List.length_cons] <;> omega

/-! ## Direct reads and writes -/

/-- A read under a name of a pair takes a place after every access under its own name. -/
theorem CtlReg.readPlace_bounds (r : CtlReg) (name : AccessName) (n : Nat) :
    ownEnd name r.tail ≤ r.readPlace name n ∧ r.readPlace name n ≤ r.tail.length := by
  unfold CtlReg.readPlace
  rcases drawPlace_mem ((List.range (r.tail.length + 1)).filter fun k => decide (ownEnd name r.tail ≤ k))
    r.tail.length n with h | h
  · rw [h]
    exact ⟨ownEnd_le .., le_refl _⟩
  · simp only [List.mem_filter, List.mem_range, decide_eq_true_eq] at h
    omega

/-- All that a direct read does to the register, and what it finds. -/
theorem CtlReg.directRead_inOrder (r : CtlReg) (hazard : Bool) (name : AccessName) (n : Nat) :
    ReadInOrder r (r.afterRead hazard name n) hazard name (r.directRead hazard name n) := by
  unfold ReadInOrder CtlReg.afterRead CtlReg.directRead
  split
  · exact ⟨rfl, rfl⟩
  · refine ⟨r.readPlace name n, (r.readPlace_bounds name n).1, (r.readPlace_bounds name n).2, rfl, ?_⟩
    cases h : r.readPlace name n <;> simp [placeAt]

/-- All that a direct write does to the register. -/
theorem CtlReg.directWrite_inOrder (r : CtlReg) (cacheable hazard : Bool) (name : AccessName) (value mask : Dword)
    (n : Nat) :
    WrittenInOrder r (r.directWrite cacheable hazard name value mask n) cacheable hazard name value mask := by
  refine ⟨?_, fun v => ?_, fun v => ?_⟩
  · unfold CtlReg.directWrite CtlReg.orderWrite
    split
    · exact ⟨rfl, rfl⟩
    · refine ⟨rfl, drawPlace (r.places (.wrote name value mask)) r.tail.length n, ?_⟩
      rcases drawPlace_mem (r.places (.wrote name value mask)) r.tail.length n with h | h
      · rw [h]
        exact ⟨ownEnd_le .., le_refl _, rfl, .inl rfl⟩
      · generalize drawPlace _ _ _ = k at h ⊢
        simp only [CtlReg.places, List.mem_filter, List.mem_range, Bool.and_eq_true, decide_eq_true_eq] at h
        exact ⟨h.2.1, by omega, rfl, .inr h.2.2⟩
  · simp [CtlReg.directWrite, mem_rememberAll, or_assoc]
  · cases cacheable <;> simp [CtlReg.directWrite, CtlReg.orderWrite, mem_rememberAll, or_assoc]

theorem replay_append (base : Dword) (l l' : List NamedAccess) :
    replay base (l ++ l') = replay (replay base l) l' := List.foldl_append

/-- A read changes no value. -/
@[simp] theorem CtlReg.afterRead_val (r : CtlReg) (hazard : Bool) (name : AccessName) (n : Nat) :
    (r.afterRead hazard name n).val = r.val := by
  unfold CtlReg.afterRead
  split
  · rfl
  · split
    · rfl
    · rename_i k _
      show replay r.base (r.tail.take (k + 1) ++ .read name _ :: r.tail.drop (k + 1)) = replay r.base r.tail
      conv_rhs => rw [← r.tail.take_append_drop (k + 1), replay_append]
      rw [replay_append]
      rfl

/-- A write in order with all other accesses. -/
theorem CtlReg.directWrite_of_inOrder (r : CtlReg) (cacheable hazard : Bool) (name : AccessName) (value mask : Dword)
    (n : Nat) (h : inOrder hazard name = true) :
    (r.directWrite cacheable hazard name value mask n).val = maskedWrite value r.val mask := by
  simp [CtlReg.directWrite, CtlReg.orderWrite, h, CtlReg.val, replay]

/-! ## What is in force -/

@[simp] theorem CtlReg.settled_val (v : Dword) : (CtlReg.settled v).val = v := rfl
@[simp] theorem CtlReg.synchronize_val (r : CtlReg) : r.synchronize.val = r.val := rfl
@[simp] theorem CtlReg.synchronize_tail (r : CtlReg) : r.synchronize.tail = [] := rfl
@[simp] theorem CtlReg.synchronize_unsynced (r : CtlReg) : r.synchronize.unsynced = [] := rfl
@[simp] theorem CtlReg.synchronize_stale (r : CtlReg) : r.synchronize.stale = r.stale := rfl
@[simp] theorem CtlReg.invalidateTlb_val (r : CtlReg) : r.invalidateTlb.val = r.val := rfl
@[simp] theorem CtlReg.invalidateTlb_tail (r : CtlReg) : r.invalidateTlb.tail = r.tail := rfl
@[simp] theorem CtlReg.invalidateTlb_unsynced (r : CtlReg) : r.invalidateTlb.unsynced = r.unsynced := rfl
@[simp] theorem CtlReg.invalidateTlb_stale (r : CtlReg) : r.invalidateTlb.stale = [] := rfl

/-- A register with nothing older is in force as it is stored. -/
theorem CtlReg.view_of_settled (r : CtlReg) (fields : List ViewField) (n : Nat) (hu : r.unsynced = [])
    (hs : r.stale = []) : r.view fields n = r.val := by simp [CtlReg.view, hu, hs]

theorem fieldMask_getLsbD (lo w i : Nat) (hi : i < 64) :
    (fieldMask lo w).getLsbD i = (decide (lo ≤ i) && decide (i < lo + w)) := by
  rw [fieldMask, BitVec.getLsbD_ofNat, Nat.testBit_shiftLeft, Nat.testBit_two_pow_sub_one]
  by_cases h : lo ≤ i
  · simp [hi, h, show (i - lo < w) ↔ (i < lo + w) by omega]
  · simp [h]

/-- A field is known by its bits. -/
theorem fieldAt_congr {v w : Dword} {lo width : Nat}
    (h : ∀ i, lo ≤ i → i < lo + width → v.getLsbD i = w.getLsbD i) : fieldAt v lo width = fieldAt w lo width := by
  unfold fieldAt
  congr 1
  apply BitVec.eq_of_getLsbD_eq
  intro i hi
  simp only [BitVec.getLsbD_extractLsb', hi, decide_true, Bool.true_and]
  exact h _ (by omega) (by omega)

/-- The bits drawn for a field are those of one value. -/
theorem CtlReg.viewField_mem (r : CtlReg) (f : ViewField) (n : Nat) :
    ∃ v ∈ r.val :: r.olderFor f, r.viewField f n = v &&& f.mask := by
  have h := chooseAmong_mem (r.val &&& f.mask) ((r.olderFor f).map (· &&& f.mask)) (Config.freeFieldChoice n f.lo)
  rcases List.mem_cons.1 h with h | h
  · exact ⟨r.val, by simp, h⟩
  · obtain ⟨v, hv, he⟩ := List.mem_map.1 h
    exact ⟨v, List.mem_cons_of_mem _ hv, he.symm⟩

/-- Two fields share no bit. -/
def ViewField.Apart (f g : ViewField) : Prop := f.lo + f.width ≤ g.lo ∨ g.lo + g.width ≤ f.lo

/-- Each bit of a merge comes from one of the two. -/
theorem mergeBits_bit (m v w : Dword) (i : Nat) :
    (mergeBits m v w).getLsbD i = if m.getLsbD i then w.getLsbD i else v.getLsbD i := by
  by_cases hi : i < 64
  · simp only [mergeBits, BitVec.getLsbD_or, BitVec.getLsbD_and, BitVec.getLsbD_not, hi, decide_true, Bool.true_and]
    cases m.getLsbD i <;> simp
  · simp [BitVec.getLsbD_of_ge _ _ (not_lt.1 hi)]

/-- Fields merged one after the other leave the bits outside them alone. -/
theorem view_foldl_other (r : CtlReg) (n : Nat) (fields : List ViewField) (v : Dword) (i : Nat)
    (h : ∀ f ∈ fields, ¬(f.lo ≤ i ∧ i < f.lo + f.width)) :
    (fields.foldl (fun v f => mergeBits f.mask v (r.viewField f n)) v).getLsbD i = v.getLsbD i := by
  induction fields generalizing v with
  | nil => rfl
  | cons f l ih =>
    rw [List.foldl_cons, ih _ (fun g hg => h g (List.mem_cons_of_mem _ hg)), mergeBits_bit]
    by_cases hi : i < 64
    · rw [ViewField.mask, fieldMask_getLsbD _ _ _ hi]
      have := h f List.mem_cons_self
      simp only [not_and, not_lt] at this
      by_cases hlo : f.lo ≤ i
      · simp [Nat.not_lt.2 (this hlo)]
      · simp [hlo]
    · simp [BitVec.getLsbD_of_ge _ _ (not_lt.1 hi)]

/-- Each field of a register as a rule sees it is that of the stored value or of an older one that may be in force. -/
theorem CtlReg.view_field (r : CtlReg) (fields : List ViewField) (n : Nat) (hp : fields.Pairwise ViewField.Apart)
    (f : ViewField) (hf : f ∈ fields) :
    ∃ v ∈ r.val :: r.olderFor f, fieldAt (r.view fields n) f.lo f.width = fieldAt v f.lo f.width := by
  unfold CtlReg.view
  split
  · exact ⟨r.val, by simp, rfl⟩
  · obtain ⟨v, hv, he⟩ := r.viewField_mem f n
    refine ⟨v, hv, fieldAt_congr fun i hlo hhi => ?_⟩
    by_cases hi : i < 64
    · generalize r.val = start
      clear hv
      induction fields generalizing start with
      | nil => simp at hf
      | cons g l ih =>
        rw [List.foldl_cons]
        rw [List.pairwise_cons] at hp
        rcases List.mem_cons.1 hf with rfl | hf
        · rw [view_foldl_other _ _ _ _ _ fun g hg hgi => ?_, mergeBits_bit, he, BitVec.getLsbD_and,
            ViewField.mask, fieldMask_getLsbD _ _ _ hi]
          · simp [hlo, hhi]
          · have := hp.1 g hg
            unfold ViewField.Apart at this
            omega
        · exact ih hp.2 hf _
    · rw [BitVec.getLsbD_of_ge _ _ (not_lt.1 hi), BitVec.getLsbD_of_ge _ _ (not_lt.1 hi)]

/-- A field with no older value in force is the stored one. -/
theorem CtlReg.view_field_of_settled (r : CtlReg) (fields : List ViewField) (n : Nat)
    (hp : fields.Pairwise ViewField.Apart) (f : ViewField) (hf : f ∈ fields) (h : r.olderFor f = []) :
    fieldAt (r.view fields n) f.lo f.width = fieldAt r.val f.lo f.width := by
  obtain ⟨v, hv, he⟩ := r.view_field fields n hp f hf
  rw [h, List.mem_singleton] at hv
  rw [he, hv]

theorem sctlrViewFields_apart (c : Config) : (sctlrViewFields c).Pairwise ViewField.Apart := by
  rw [sctlrViewFields, List.pairwise_map]
  show sctlrFields.Pairwise fun f g => f.lo + f.width ≤ g.lo ∨ g.lo + g.width ≤ f.lo
  decide

/-- A field of SCTLR_EL2 that no TLB may hold is the stored one, with nothing unsynchronized. -/
theorem State.sctlrView_field (s : State) (k : Nat) (f : SctlrField) (hu : s.sctlrEl2.unsynced = [])
    (hc : sctlrCacheable s.cfg f = false) :
    fieldAt (s.sctlrView k) f.lo f.width = fieldAt s.sctlrEl2.val f.lo f.width := by
  have hf : f ∈ sctlrFields := by cases f <;> decide
  exact s.sctlrEl2.view_field_of_settled _ _ (sctlrViewFields_apart s.cfg)
    ⟨f.lo, f.width, fun _ => sctlrCacheable s.cfg f⟩ (List.mem_map.2 ⟨f, hf, rfl⟩) (by simp [CtlReg.olderFor, hu, hc])

/-- A rule that reads such a field by `sctlrValue` reads the stored one. -/
theorem State.sctlrValue_view (s : State) (k : Nat) (f : SctlrField) (hu : s.sctlrEl2.unsynced = [])
    (hc : sctlrCacheable s.cfg f = false) : sctlrValue s (s.sctlrView k) f = sctlrValue s s.sctlrEl2.val f := by
  unfold sctlrValue
  rw [s.sctlrView_field k f hu hc]

/-- A rule that reads such a field by `sctlrBit` reads the stored one. -/
theorem State.sctlrBit_view (s : State) (k : Nat) (f : SctlrField) (hu : s.sctlrEl2.unsynced = [])
    (hc : sctlrCacheable s.cfg f = false) : sctlrBit s (s.sctlrView k) f = sctlrBit s s.sctlrEl2.val f := by
  unfold sctlrBit
  rw [s.sctlrValue_view k f hu hc]

theorem hfgrtr2ViewFields_apart : hfgrtr2ViewFields.Pairwise ViewField.Apart := by
  rw [hfgrtr2ViewFields, List.pairwise_map]
  show (List.range 15).Pairwise fun f g => f + 1 ≤ g ∨ g + 1 ≤ f
  decide

theorem tcr2ViewFields_apart : tcr2ViewFields.Pairwise ViewField.Apart := by
  rw [tcr2ViewFields, List.pairwise_map]
  show tcr2Fields.Pairwise fun f g => f.pos + 1 ≤ g.pos ∨ g.pos + 1 ≤ f.pos
  decide

theorem tcrViewFields_apart : tcrViewFields.Pairwise ViewField.Apart := by
  rw [tcrViewFields, List.pairwise_map]
  show tcrFields.Pairwise fun f g => f.lo + f.width ≤ g.lo ∨ g.lo + g.width ≤ f.lo
  decide

end Sys2Proof.Machine
end

