-- ==== Sys2Proof/Laws/Memory.lean ====
section
/-! SUPPORT. Memory: a read after a write, the canonical form, and runs of bytes. -/

namespace Sys2Proof.Machine

theorem Memory.read_write_same (m : Memory) (a : Nat) (v : Byte) (lo : Nat) (h : Memory.wfFrom lo m = true) :
    (Memory.write m a v).read a = v := by
  induction m generalizing lo with
  | nil => unfold Memory.write; split <;> simp_all [Memory.read]
  | cons c m ih =>
    obtain ⟨k, b⟩ := c
    simp only [Memory.wfFrom, Bool.and_eq_true, decide_eq_true_eq] at h
    obtain ⟨⟨⟨h1, h2⟩, h3⟩, h4⟩ := h
    have hlow : ∀ (m' : Memory) (lo' : Nat), Memory.wfFrom lo' m' = true → ∀ a', a' < lo' →
        Memory.read m' a' = Memory.default := by
      intro m'
      induction m' with
      | nil => intros; rfl
      | cons c' m'' ih' =>
        obtain ⟨k', b'⟩ := c'
        intro lo' hw a' ha'
        simp only [Memory.wfFrom, Bool.and_eq_true, decide_eq_true_eq] at hw
        have : a' ≠ k' := by omega
        simp only [Memory.read, this, if_false]
        exact ih' (k' + 1) hw.2 a' (by omega)
    unfold Memory.write
    by_cases h5 : a < k
    · simp only [h5, if_true]
      split
      · rename_i hv
        have : a ≠ k := by omega
        simp only [Memory.read, this, if_false]
        rw [hlow m (k + 1) h4 a (by omega), hv]
      · simp [Memory.read]
    · simp only [h5, if_false]
      by_cases h6 : a = k
      · simp only [h6, if_true]
        split
        · rename_i hv
          rw [hlow m (k + 1) h4 k (by omega), hv]
        · simp [Memory.read]
      · simp only [h6, if_false, Memory.read]
        exact ih (k + 1) h4

/-- A write leaves every other address alone. -/
theorem Memory.read_write_other (m : Memory) (a b : Nat) (v : Byte) (h : b ≠ a) :
    (Memory.write m a v).read b = m.read b := by
  induction m with
  | nil => unfold Memory.write; split <;> simp [Memory.read, h]
  | cons c m ih =>
    obtain ⟨k, w⟩ := c
    unfold Memory.write
    split
    · split <;> simp [Memory.read, h]
    · split
      · rename_i h6
        subst h6
        split <;> simp [Memory.read, h]
      · simp only [Memory.read, ih]

theorem Memory.wfFrom_mono (m : Memory) (lo lo' : Nat) (h : Memory.wfFrom lo m = true) (hl : lo' ≤ lo) :
    Memory.wfFrom lo' m = true := by
  cases m with
  | nil => rfl
  | cons c m =>
    obtain ⟨k, b⟩ := c
    simp only [Memory.wfFrom, Bool.and_eq_true, decide_eq_true_eq] at h ⊢
    exact ⟨⟨⟨by omega, h.1.1.2⟩, h.1.2⟩, h.2⟩

/-- A write keeps the canonical form. -/
theorem Memory.wfFrom_write (m : Memory) (lo a : Nat) (v : Byte) (h : Memory.wfFrom lo m = true) (hl : lo ≤ a)
    (ha : a < 2 ^ 64) : Memory.wfFrom lo (Memory.write m a v) = true := by
  induction m generalizing lo with
  | nil =>
    unfold Memory.write
    split
    · rfl
    · rename_i hv
      simp only [Memory.wfFrom, Bool.and_eq_true, decide_eq_true_eq]
      exact ⟨⟨⟨hl, ha⟩, hv⟩, trivial⟩
  | cons c m ih =>
    obtain ⟨k, b⟩ := c
    have h' := h
    simp only [Memory.wfFrom, Bool.and_eq_true, decide_eq_true_eq] at h
    obtain ⟨⟨⟨h1, h2⟩, h3⟩, h4⟩ := h
    unfold Memory.write
    split
    · split
      · exact h'
      · rename_i h5 hv
        simp only [Memory.wfFrom, Bool.and_eq_true, decide_eq_true_eq]
        exact ⟨⟨⟨hl, ha⟩, hv⟩, ⟨⟨⟨by omega, h2⟩, h3⟩, h4⟩⟩
    · split
      · split
        · exact Memory.wfFrom_mono m (k + 1) lo h4 (by omega)
        · rename_i h5 h6 hv
          subst h6
          simp only [Memory.wfFrom, Bool.and_eq_true, decide_eq_true_eq]
          exact ⟨⟨⟨hl, ha⟩, hv⟩, h4⟩
      · rename_i h5 h6
        simp only [Memory.wfFrom, Bool.and_eq_true, decide_eq_true_eq]
        exact ⟨⟨⟨h1, h2⟩, h3⟩, ih (k + 1) h4 (by omega)⟩

/-- Every store inside the 64-bit space keeps the canonical form. -/
theorem Memory.wf_writeBytes (m : Memory) (as : List Nat) (bs : List Byte) (h : m.wf = true)
    (ha : ∀ a ∈ as, a < 2 ^ 64) : (m.writeBytes as bs).wf = true := by
  unfold Memory.writeBytes
  induction as generalizing m bs with
  | nil => simpa using h
  | cons a as ih =>
    cases bs with
    | nil => simpa using h
    | cons b bs =>
      simp only [List.zip_cons_cons, List.foldl_cons]
      exact ih _ bs (Memory.wfFrom_write m 0 a b h (Nat.zero_le _) (ha a (by simp)))
        (fun x hx => ha x (by simp [hx]))

/-- A store leaves every address outside its bytes alone. -/
theorem Memory.read_writeBytes_other (m : Memory) (as : List Nat) (bs : List Byte) (k : Nat) (h : k ∉ as) :
    (m.writeBytes as bs).read k = m.read k := by
  unfold Memory.writeBytes
  induction as generalizing m bs with
  | nil => rfl
  | cons a as ih =>
    cases bs with
    | nil => rfl
    | cons b bs =>
      simp only [List.zip_cons_cons, List.foldl_cons]
      rw [ih _ bs (by simp_all)]
      exact Memory.read_write_other _ _ _ _ (by simp_all)

/-- A store puts each byte at its address. -/
theorem Memory.read_writeBytes_at (m : Memory) (as : List Nat) (bs : List Byte) (hm : m.wf = true)
    (ha : ∀ a ∈ as, a < 2 ^ 64) (hd : as.Nodup) (hl : as.length = bs.length) (i : Nat) (hi : i < as.length) :
    (m.writeBytes as bs).read as[i] = bs[i]'(hl ▸ hi) := by
  unfold Memory.writeBytes
  induction as generalizing m bs i with
  | nil => simp at hi
  | cons a as ih =>
    cases bs with
    | nil => simp at hl
    | cons b bs =>
      have hwf := Memory.wfFrom_write m 0 a b hm (Nat.zero_le _) (ha a (by simp))
      simp only [List.zip_cons_cons, List.foldl_cons]
      cases i with
      | zero =>
        have hn : a ∉ as := (List.nodup_cons.1 hd).1
        have := Memory.read_writeBytes_other (m.write a b) as bs a hn
        unfold Memory.writeBytes at this
        simp only [List.getElem_cons_zero, this]
        exact Memory.read_write_same m a b 0 hm
      | succ i =>
        simp only [List.getElem_cons_succ]
        exact ih (m.write a b) bs hwf (fun x hx => ha x (by simp [hx])) (List.nodup_cons.1 hd).2
          (by simpa using hl) i (by simpa using hi)

theorem byteAddresses_lt (a : Dword) (n k : Nat) (h : k ∈ byteAddresses a n) : k < 2 ^ 64 := by
  obtain ⟨i, -, rfl⟩ := List.mem_map.1 h
  exact BitVec.isLt _

theorem byteAddresses_length (a : Dword) (n : Nat) : (byteAddresses a n).length = n := by simp [byteAddresses]

theorem byteAddresses_getElem (a : Dword) (n i : Nat) (h : i < (byteAddresses a n).length) :
    (byteAddresses a n)[i] = (a + BitVec.ofNat 64 i).toNat := by simp [byteAddresses]

/-- Eight consecutive addresses are distinct, also across the top of the address space. -/
theorem byteAddresses_nodup (a : Dword) (n : Nat) (hn : n < 2 ^ 64) : (byteAddresses a n).Nodup := by
  unfold byteAddresses
  refine List.Nodup.map_on ?_ List.nodup_range
  intro i hi j hj h
  have hi' := List.mem_range.1 hi
  have hj' := List.mem_range.1 hj
  have := BitVec.eq_of_toNat_eq h
  have h2 : BitVec.ofNat 64 i = BitVec.ofNat 64 j := by simpa using this
  have h3 := congrArg BitVec.toNat h2
  simp only [BitVec.toNat_ofNat] at h3
  rwa [Nat.mod_eq_of_lt (by omega), Nat.mod_eq_of_lt (by omega)] at h3

/-- The memory of a store is in canonical form. -/
theorem State.storeBytes_wf (s : State) (a : Dword) (bs : List Byte) (h : s.mem.wf = true) :
    (s.storeBytes a bs).mem.wf = true :=
  Memory.wf_writeBytes _ _ _ h (fun _ hk => byteAddresses_lt _ _ _ hk)

/-- The memory of a word placed for the fetch is in canonical form. -/
theorem State.placeWord_wf (s : State) (w : InstrWord) (h : s.mem.wf = true) : (s.placeWord w).mem.wf = true := by
  refine Memory.wf_writeBytes _ _ _ h ?_
  intro k hk
  simp only [List.mem_cons, List.not_mem_nil, or_false] at hk
  rcases hk with rfl | rfl | rfl | rfl <;> exact BitVec.isLt _

theorem State.reset_wf : State.reset.mem.wf = true := rfl

/-- What a store of eight bytes leaves at each of its addresses. -/
theorem State.storeBytes_byteAt (s : State) (a : Dword) (bs : List Byte) (hs : s.mem.wf = true)
    (hl : bs.length < 2 ^ 64) (i : Nat) (hi : i < bs.length) :
    (s.storeBytes a bs).byteAt (a + BitVec.ofNat 64 i).toNat = bs[i] := by
  have h := Memory.read_writeBytes_at s.mem (byteAddresses a bs.length) bs hs
    (fun _ hk => byteAddresses_lt _ _ _ hk) (byteAddresses_nodup a _ hl) (byteAddresses_length _ _) i
    (by rw [byteAddresses_length]; exact hi)
  rw [byteAddresses_getElem] at h
  exact h

/-- A store leaves every other byte alone. -/
theorem State.storeBytes_byteAt_other (s : State) (a : Dword) (bs : List Byte) (k : Nat)
    (h : k ∉ byteAddresses a bs.length) : (s.storeBytes a bs).byteAt k = s.byteAt k :=
  Memory.read_writeBytes_other _ _ _ _ h

end Sys2Proof.Machine
end

