-- ==== Sys2Proof/Laws/State.lean ====
section
/-! SUPPORT. One lemma per field of the state for each update of it, so that no proof unfolds a record update. -/

namespace Sys2Proof.Machine

/-! ## `advancePc` -/

@[simp] theorem State.advancePc_cfg (s : State) : s.advancePc.cfg = s.cfg := rfl
@[simp] theorem State.advancePc_x (s : State) : s.advancePc.x = s.x := rfl
@[simp] theorem State.advancePc_pc (s : State) : s.advancePc.pc = s.pc + 4 := rfl
@[simp] theorem State.advancePc_pstate (s : State) : s.advancePc.pstate = s.pstate := rfl
@[simp] theorem State.advancePc_spEl0 (s : State) : s.advancePc.spEl0 = s.spEl0 := rfl
@[simp] theorem State.advancePc_spEl1 (s : State) : s.advancePc.spEl1 = s.spEl1 := rfl
@[simp] theorem State.advancePc_spEl2 (s : State) : s.advancePc.spEl2 = s.spEl2 := rfl
@[simp] theorem State.advancePc_spEl3 (s : State) : s.advancePc.spEl3 = s.spEl3 := rfl
@[simp] theorem State.advancePc_sctlrEl2 (s : State) : s.advancePc.sctlrEl2 = s.sctlrEl2 := rfl
@[simp] theorem State.advancePc_hfgrtr2El2 (s : State) : s.advancePc.hfgrtr2El2 = s.hfgrtr2El2 := rfl
@[simp] theorem State.advancePc_tcrEl1 (s : State) : s.advancePc.tcrEl1 = s.tcrEl1 := rfl
@[simp] theorem State.advancePc_tcr2El1 (s : State) : s.advancePc.tcr2El1 = s.tcr2El1 := rfl
@[simp] theorem State.advancePc_sctlrEl1 (s : State) : s.advancePc.sctlrEl1 = s.sctlrEl1 := rfl
@[simp] theorem State.advancePc_tcrEl2 (s : State) : s.advancePc.tcrEl2 = s.tcrEl2 := rfl
@[simp] theorem State.advancePc_tcr2El2 (s : State) : s.advancePc.tcr2El2 = s.tcr2El2 := rfl
@[simp] theorem State.advancePc_tcr2El2Pie (s : State) : s.advancePc.tcr2El2Pie = s.tcr2El2Pie := rfl
@[simp] theorem State.advancePc_sctlr2El2Nmea (s : State) : s.advancePc.sctlr2El2Nmea = s.sctlr2El2Nmea := rfl
@[simp] theorem State.advancePc_el2Aarch32 (s : State) : s.advancePc.el2Aarch32 = s.el2Aarch32 := rfl
@[simp] theorem State.advancePc_hcrEl2 (s : State) : s.advancePc.hcrEl2 = s.hcrEl2 := rfl
@[simp] theorem State.advancePc_hcrxEl2 (s : State) : s.advancePc.hcrxEl2 = s.hcrxEl2 := rfl
@[simp] theorem State.advancePc_scrEl3 (s : State) : s.advancePc.scrEl3 = s.scrEl3 := rfl
@[simp] theorem State.advancePc_fgt (s : State) : s.advancePc.fgt = s.fgt := rfl
@[simp] theorem State.advancePc_masks (s : State) : s.advancePc.masks = s.masks := rfl
@[simp] theorem State.advancePc_nvMemBase (s : State) : s.advancePc.nvMemBase = s.nvMemBase := rfl
@[simp] theorem State.advancePc_nvMemFaults (s : State) : s.advancePc.nvMemFaults = s.nvMemFaults := rfl
@[simp] theorem State.advancePc_dbgState (s : State) : s.advancePc.dbgState = s.dbgState := rfl
@[simp] theorem State.advancePc_bankEl1 (s : State) : s.advancePc.bankEl1 = s.bankEl1 := rfl
@[simp] theorem State.advancePc_bankEl2 (s : State) : s.advancePc.bankEl2 = s.bankEl2 := rfl
@[simp] theorem State.advancePc_bankEl3 (s : State) : s.advancePc.bankEl3 = s.bankEl3 := rfl
@[simp] theorem State.advancePc_farEl2 (s : State) : s.advancePc.farEl2 = s.farEl2 := rfl
@[simp] theorem State.advancePc_hpfarEl2 (s : State) : s.advancePc.hpfarEl2 = s.hpfarEl2 := rfl
@[simp] theorem State.advancePc_tagFaults (s : State) : s.advancePc.tagFaults = s.tagFaults := rfl
@[simp] theorem State.advancePc_pendingTagFaults (s : State) :
    s.advancePc.pendingTagFaults = s.pendingTagFaults := rfl
@[simp] theorem State.advancePc_controlled (s : State) : s.advancePc.controlled = s.controlled := rfl
@[simp] theorem State.advancePc_named (s : State) : s.advancePc.named = s.named := rfl
@[simp] theorem State.advancePc_wfeCycles (s : State) : s.advancePc.wfeCycles = s.wfeCycles := rfl
@[simp] theorem State.advancePc_mem (s : State) : s.advancePc.mem = s.mem := rfl
@[simp] theorem State.advancePc_staleFetch (s : State) : s.advancePc.staleFetch = s.staleFetch := rfl
@[simp] theorem State.advancePc_lastException (s : State) : s.advancePc.lastException = s.lastException := rfl
@[simp] theorem State.advancePc_lastReturn (s : State) : s.advancePc.lastReturn = s.lastReturn := rfl
@[simp] theorem State.advancePc_freeCount (s : State) : s.advancePc.freeCount = s.freeCount := rfl

/-! ## `spendDraws` -/

@[simp] theorem State.spendDraws_cfg (s : State) : s.spendDraws.cfg = s.cfg := rfl
@[simp] theorem State.spendDraws_x (s : State) : s.spendDraws.x = s.x := rfl
@[simp] theorem State.spendDraws_pc (s : State) : s.spendDraws.pc = s.pc := rfl
@[simp] theorem State.spendDraws_pstate (s : State) : s.spendDraws.pstate = s.pstate := rfl
@[simp] theorem State.spendDraws_spEl0 (s : State) : s.spendDraws.spEl0 = s.spEl0 := rfl
@[simp] theorem State.spendDraws_spEl1 (s : State) : s.spendDraws.spEl1 = s.spEl1 := rfl
@[simp] theorem State.spendDraws_spEl2 (s : State) : s.spendDraws.spEl2 = s.spEl2 := rfl
@[simp] theorem State.spendDraws_spEl3 (s : State) : s.spendDraws.spEl3 = s.spEl3 := rfl
@[simp] theorem State.spendDraws_sctlrEl2 (s : State) : s.spendDraws.sctlrEl2 = s.sctlrEl2 := rfl
@[simp] theorem State.spendDraws_hfgrtr2El2 (s : State) : s.spendDraws.hfgrtr2El2 = s.hfgrtr2El2 := rfl
@[simp] theorem State.spendDraws_tcrEl1 (s : State) : s.spendDraws.tcrEl1 = s.tcrEl1 := rfl
@[simp] theorem State.spendDraws_tcr2El1 (s : State) : s.spendDraws.tcr2El1 = s.tcr2El1 := rfl
@[simp] theorem State.spendDraws_sctlrEl1 (s : State) : s.spendDraws.sctlrEl1 = s.sctlrEl1 := rfl
@[simp] theorem State.spendDraws_tcrEl2 (s : State) : s.spendDraws.tcrEl2 = s.tcrEl2 := rfl
@[simp] theorem State.spendDraws_tcr2El2 (s : State) : s.spendDraws.tcr2El2 = s.tcr2El2 := rfl
@[simp] theorem State.spendDraws_tcr2El2Pie (s : State) : s.spendDraws.tcr2El2Pie = s.tcr2El2Pie := rfl
@[simp] theorem State.spendDraws_sctlr2El2Nmea (s : State) : s.spendDraws.sctlr2El2Nmea = s.sctlr2El2Nmea := rfl
@[simp] theorem State.spendDraws_el2Aarch32 (s : State) : s.spendDraws.el2Aarch32 = s.el2Aarch32 := rfl
@[simp] theorem State.spendDraws_hcrEl2 (s : State) : s.spendDraws.hcrEl2 = s.hcrEl2 := rfl
@[simp] theorem State.spendDraws_hcrxEl2 (s : State) : s.spendDraws.hcrxEl2 = s.hcrxEl2 := rfl
@[simp] theorem State.spendDraws_scrEl3 (s : State) : s.spendDraws.scrEl3 = s.scrEl3 := rfl
@[simp] theorem State.spendDraws_fgt (s : State) : s.spendDraws.fgt = s.fgt := rfl
@[simp] theorem State.spendDraws_masks (s : State) : s.spendDraws.masks = s.masks := rfl
@[simp] theorem State.spendDraws_nvMemBase (s : State) : s.spendDraws.nvMemBase = s.nvMemBase := rfl
@[simp] theorem State.spendDraws_nvMemFaults (s : State) : s.spendDraws.nvMemFaults = s.nvMemFaults := rfl
@[simp] theorem State.spendDraws_dbgState (s : State) : s.spendDraws.dbgState = s.dbgState := rfl
@[simp] theorem State.spendDraws_bankEl1 (s : State) : s.spendDraws.bankEl1 = s.bankEl1 := rfl
@[simp] theorem State.spendDraws_bankEl2 (s : State) : s.spendDraws.bankEl2 = s.bankEl2 := rfl
@[simp] theorem State.spendDraws_bankEl3 (s : State) : s.spendDraws.bankEl3 = s.bankEl3 := rfl
@[simp] theorem State.spendDraws_farEl2 (s : State) : s.spendDraws.farEl2 = s.farEl2 := rfl
@[simp] theorem State.spendDraws_hpfarEl2 (s : State) : s.spendDraws.hpfarEl2 = s.hpfarEl2 := rfl
@[simp] theorem State.spendDraws_tagFaults (s : State) : s.spendDraws.tagFaults = s.tagFaults := rfl
@[simp] theorem State.spendDraws_pendingTagFaults (s : State) :
    s.spendDraws.pendingTagFaults = s.pendingTagFaults := rfl
@[simp] theorem State.spendDraws_controlled (s : State) : s.spendDraws.controlled = s.controlled := rfl
@[simp] theorem State.spendDraws_named (s : State) : s.spendDraws.named = s.named := rfl
@[simp] theorem State.spendDraws_wfeCycles (s : State) : s.spendDraws.wfeCycles = s.wfeCycles := rfl
@[simp] theorem State.spendDraws_mem (s : State) : s.spendDraws.mem = s.mem := rfl
@[simp] theorem State.spendDraws_staleFetch (s : State) : s.spendDraws.staleFetch = s.staleFetch := rfl
@[simp] theorem State.spendDraws_lastException (s : State) : s.spendDraws.lastException = s.lastException := rfl
@[simp] theorem State.spendDraws_lastReturn (s : State) : s.spendDraws.lastReturn = s.lastReturn := rfl
@[simp] theorem State.spendDraws_freeCount (s : State) :
    s.spendDraws.freeCount = s.freeCount + Config.drawSlots := rfl

/-! ## `contextSync` -/

@[simp] theorem State.contextSync_cfg (s : State) : s.contextSync.cfg = s.cfg := rfl
@[simp] theorem State.contextSync_x (s : State) : s.contextSync.x = s.x := rfl
@[simp] theorem State.contextSync_pc (s : State) : s.contextSync.pc = s.pc := rfl
@[simp] theorem State.contextSync_pstate (s : State) : s.contextSync.pstate = s.pstate := rfl
@[simp] theorem State.contextSync_spEl0 (s : State) : s.contextSync.spEl0 = s.spEl0 := rfl
@[simp] theorem State.contextSync_spEl1 (s : State) : s.contextSync.spEl1 = s.spEl1 := rfl
@[simp] theorem State.contextSync_spEl2 (s : State) : s.contextSync.spEl2 = s.spEl2 := rfl
@[simp] theorem State.contextSync_spEl3 (s : State) : s.contextSync.spEl3 = s.spEl3 := rfl
@[simp] theorem State.contextSync_sctlrEl2 (s : State) : s.contextSync.sctlrEl2 = s.sctlrEl2.synchronize := rfl
@[simp] theorem State.contextSync_hfgrtr2El2 (s : State) : s.contextSync.hfgrtr2El2 = s.hfgrtr2El2.synchronize := rfl
@[simp] theorem State.contextSync_tcrEl1 (s : State) : s.contextSync.tcrEl1 = s.tcrEl1.synchronize := rfl
@[simp] theorem State.contextSync_tcr2El1 (s : State) : s.contextSync.tcr2El1 = s.tcr2El1.synchronize := rfl
@[simp] theorem State.contextSync_sctlrEl1 (s : State) : s.contextSync.sctlrEl1 = s.sctlrEl1 := rfl
@[simp] theorem State.contextSync_tcrEl2 (s : State) : s.contextSync.tcrEl2 = s.tcrEl2 := rfl
@[simp] theorem State.contextSync_tcr2El2 (s : State) : s.contextSync.tcr2El2 = s.tcr2El2 := rfl
@[simp] theorem State.contextSync_tcr2El2Pie (s : State) : s.contextSync.tcr2El2Pie = s.tcr2El2Pie := rfl
@[simp] theorem State.contextSync_sctlr2El2Nmea (s : State) : s.contextSync.sctlr2El2Nmea = s.sctlr2El2Nmea := rfl
@[simp] theorem State.contextSync_el2Aarch32 (s : State) : s.contextSync.el2Aarch32 = s.el2Aarch32 := rfl
@[simp] theorem State.contextSync_hcrEl2 (s : State) : s.contextSync.hcrEl2 = s.hcrEl2 := rfl
@[simp] theorem State.contextSync_hcrxEl2 (s : State) : s.contextSync.hcrxEl2 = s.hcrxEl2 := rfl
@[simp] theorem State.contextSync_scrEl3 (s : State) : s.contextSync.scrEl3 = s.scrEl3 := rfl
@[simp] theorem State.contextSync_fgt (s : State) : s.contextSync.fgt = s.fgt := rfl
@[simp] theorem State.contextSync_masks (s : State) : s.contextSync.masks = s.masks := rfl
@[simp] theorem State.contextSync_nvMemBase (s : State) : s.contextSync.nvMemBase = s.nvMemBase := rfl
@[simp] theorem State.contextSync_nvMemFaults (s : State) : s.contextSync.nvMemFaults = s.nvMemFaults := rfl
@[simp] theorem State.contextSync_dbgState (s : State) : s.contextSync.dbgState = s.dbgState := rfl
@[simp] theorem State.contextSync_bankEl1 (s : State) : s.contextSync.bankEl1 = s.bankEl1 := rfl
@[simp] theorem State.contextSync_bankEl2 (s : State) : s.contextSync.bankEl2 = s.bankEl2 := rfl
@[simp] theorem State.contextSync_bankEl3 (s : State) : s.contextSync.bankEl3 = s.bankEl3 := rfl
@[simp] theorem State.contextSync_farEl2 (s : State) : s.contextSync.farEl2 = s.farEl2 := rfl
@[simp] theorem State.contextSync_hpfarEl2 (s : State) : s.contextSync.hpfarEl2 = s.hpfarEl2 := rfl
@[simp] theorem State.contextSync_tagFaults (s : State) : s.contextSync.tagFaults = s.tagFaults := rfl
@[simp] theorem State.contextSync_pendingTagFaults (s : State) :
    s.contextSync.pendingTagFaults = s.pendingTagFaults := rfl
@[simp] theorem State.contextSync_controlled (s : State) : s.contextSync.controlled = s.controlled := rfl
@[simp] theorem State.contextSync_named (s : State) : s.contextSync.named = s.named := rfl
@[simp] theorem State.contextSync_wfeCycles (s : State) : s.contextSync.wfeCycles = s.wfeCycles := rfl
@[simp] theorem State.contextSync_mem (s : State) : s.contextSync.mem = s.mem := rfl
@[simp] theorem State.contextSync_staleFetch (s : State) : s.contextSync.staleFetch = s.staleFetch := rfl
@[simp] theorem State.contextSync_lastException (s : State) : s.contextSync.lastException = s.lastException := rfl
@[simp] theorem State.contextSync_lastReturn (s : State) : s.contextSync.lastReturn = s.lastReturn := rfl
@[simp] theorem State.contextSync_freeCount (s : State) : s.contextSync.freeCount = s.freeCount := rfl

/-! ## `tlbInvalidate` -/

@[simp] theorem State.tlbInvalidate_cfg (s : State) : s.tlbInvalidate.cfg = s.cfg := rfl
@[simp] theorem State.tlbInvalidate_x (s : State) : s.tlbInvalidate.x = s.x := rfl
@[simp] theorem State.tlbInvalidate_pc (s : State) : s.tlbInvalidate.pc = s.pc := rfl
@[simp] theorem State.tlbInvalidate_pstate (s : State) : s.tlbInvalidate.pstate = s.pstate := rfl
@[simp] theorem State.tlbInvalidate_spEl0 (s : State) : s.tlbInvalidate.spEl0 = s.spEl0 := rfl
@[simp] theorem State.tlbInvalidate_spEl1 (s : State) : s.tlbInvalidate.spEl1 = s.spEl1 := rfl
@[simp] theorem State.tlbInvalidate_spEl2 (s : State) : s.tlbInvalidate.spEl2 = s.spEl2 := rfl
@[simp] theorem State.tlbInvalidate_spEl3 (s : State) : s.tlbInvalidate.spEl3 = s.spEl3 := rfl
@[simp] theorem State.tlbInvalidate_sctlrEl2 (s : State) : s.tlbInvalidate.sctlrEl2 = s.sctlrEl2.invalidateTlb := rfl
@[simp] theorem State.tlbInvalidate_hfgrtr2El2 (s : State) :
    s.tlbInvalidate.hfgrtr2El2 = s.hfgrtr2El2.invalidateTlb := rfl
@[simp] theorem State.tlbInvalidate_tcrEl1 (s : State) : s.tlbInvalidate.tcrEl1 = s.tcrEl1.invalidateTlb := rfl
@[simp] theorem State.tlbInvalidate_tcr2El1 (s : State) : s.tlbInvalidate.tcr2El1 = s.tcr2El1.invalidateTlb := rfl
@[simp] theorem State.tlbInvalidate_sctlrEl1 (s : State) : s.tlbInvalidate.sctlrEl1 = s.sctlrEl1 := rfl
@[simp] theorem State.tlbInvalidate_tcrEl2 (s : State) : s.tlbInvalidate.tcrEl2 = s.tcrEl2 := rfl
@[simp] theorem State.tlbInvalidate_tcr2El2 (s : State) : s.tlbInvalidate.tcr2El2 = s.tcr2El2 := rfl
@[simp] theorem State.tlbInvalidate_tcr2El2Pie (s : State) : s.tlbInvalidate.tcr2El2Pie = s.tcr2El2Pie := rfl
@[simp] theorem State.tlbInvalidate_sctlr2El2Nmea (s : State) : s.tlbInvalidate.sctlr2El2Nmea = s.sctlr2El2Nmea := rfl
@[simp] theorem State.tlbInvalidate_el2Aarch32 (s : State) : s.tlbInvalidate.el2Aarch32 = s.el2Aarch32 := rfl
@[simp] theorem State.tlbInvalidate_hcrEl2 (s : State) : s.tlbInvalidate.hcrEl2 = s.hcrEl2 := rfl
@[simp] theorem State.tlbInvalidate_hcrxEl2 (s : State) : s.tlbInvalidate.hcrxEl2 = s.hcrxEl2 := rfl
@[simp] theorem State.tlbInvalidate_scrEl3 (s : State) : s.tlbInvalidate.scrEl3 = s.scrEl3 := rfl
@[simp] theorem State.tlbInvalidate_fgt (s : State) : s.tlbInvalidate.fgt = s.fgt := rfl
@[simp] theorem State.tlbInvalidate_masks (s : State) : s.tlbInvalidate.masks = s.masks := rfl
@[simp] theorem State.tlbInvalidate_nvMemBase (s : State) : s.tlbInvalidate.nvMemBase = s.nvMemBase := rfl
@[simp] theorem State.tlbInvalidate_nvMemFaults (s : State) : s.tlbInvalidate.nvMemFaults = s.nvMemFaults := rfl
@[simp] theorem State.tlbInvalidate_dbgState (s : State) : s.tlbInvalidate.dbgState = s.dbgState := rfl
@[simp] theorem State.tlbInvalidate_bankEl1 (s : State) : s.tlbInvalidate.bankEl1 = s.bankEl1 := rfl
@[simp] theorem State.tlbInvalidate_bankEl2 (s : State) : s.tlbInvalidate.bankEl2 = s.bankEl2 := rfl
@[simp] theorem State.tlbInvalidate_bankEl3 (s : State) : s.tlbInvalidate.bankEl3 = s.bankEl3 := rfl
@[simp] theorem State.tlbInvalidate_farEl2 (s : State) : s.tlbInvalidate.farEl2 = s.farEl2 := rfl
@[simp] theorem State.tlbInvalidate_hpfarEl2 (s : State) : s.tlbInvalidate.hpfarEl2 = s.hpfarEl2 := rfl
@[simp] theorem State.tlbInvalidate_tagFaults (s : State) : s.tlbInvalidate.tagFaults = s.tagFaults := rfl
@[simp] theorem State.tlbInvalidate_pendingTagFaults (s : State) :
    s.tlbInvalidate.pendingTagFaults = s.pendingTagFaults := rfl
@[simp] theorem State.tlbInvalidate_controlled (s : State) : s.tlbInvalidate.controlled = s.controlled := rfl
@[simp] theorem State.tlbInvalidate_named (s : State) : s.tlbInvalidate.named = s.named := rfl
@[simp] theorem State.tlbInvalidate_wfeCycles (s : State) : s.tlbInvalidate.wfeCycles = s.wfeCycles := rfl
@[simp] theorem State.tlbInvalidate_mem (s : State) : s.tlbInvalidate.mem = s.mem := rfl
@[simp] theorem State.tlbInvalidate_staleFetch (s : State) : s.tlbInvalidate.staleFetch = s.staleFetch := rfl
@[simp] theorem State.tlbInvalidate_lastException (s : State) : s.tlbInvalidate.lastException = s.lastException := rfl
@[simp] theorem State.tlbInvalidate_lastReturn (s : State) : s.tlbInvalidate.lastReturn = s.lastReturn := rfl
@[simp] theorem State.tlbInvalidate_freeCount (s : State) : s.tlbInvalidate.freeCount = s.freeCount := rfl

/-! ## `syncTagFaults` -/

@[simp] theorem State.syncTagFaults_cfg (s : State) : s.syncTagFaults.cfg = s.cfg := rfl
@[simp] theorem State.syncTagFaults_x (s : State) : s.syncTagFaults.x = s.x := rfl
@[simp] theorem State.syncTagFaults_pc (s : State) : s.syncTagFaults.pc = s.pc := rfl
@[simp] theorem State.syncTagFaults_pstate (s : State) : s.syncTagFaults.pstate = s.pstate := rfl
@[simp] theorem State.syncTagFaults_spEl0 (s : State) : s.syncTagFaults.spEl0 = s.spEl0 := rfl
@[simp] theorem State.syncTagFaults_spEl1 (s : State) : s.syncTagFaults.spEl1 = s.spEl1 := rfl
@[simp] theorem State.syncTagFaults_spEl2 (s : State) : s.syncTagFaults.spEl2 = s.spEl2 := rfl
@[simp] theorem State.syncTagFaults_spEl3 (s : State) : s.syncTagFaults.spEl3 = s.spEl3 := rfl
@[simp] theorem State.syncTagFaults_sctlrEl2 (s : State) : s.syncTagFaults.sctlrEl2 = s.sctlrEl2 := rfl
@[simp] theorem State.syncTagFaults_hfgrtr2El2 (s : State) : s.syncTagFaults.hfgrtr2El2 = s.hfgrtr2El2 := rfl
@[simp] theorem State.syncTagFaults_tcrEl1 (s : State) : s.syncTagFaults.tcrEl1 = s.tcrEl1 := rfl
@[simp] theorem State.syncTagFaults_tcr2El1 (s : State) : s.syncTagFaults.tcr2El1 = s.tcr2El1 := rfl
@[simp] theorem State.syncTagFaults_sctlrEl1 (s : State) : s.syncTagFaults.sctlrEl1 = s.sctlrEl1 := rfl
@[simp] theorem State.syncTagFaults_tcrEl2 (s : State) : s.syncTagFaults.tcrEl2 = s.tcrEl2 := rfl
@[simp] theorem State.syncTagFaults_tcr2El2 (s : State) : s.syncTagFaults.tcr2El2 = s.tcr2El2 := rfl
@[simp] theorem State.syncTagFaults_tcr2El2Pie (s : State) : s.syncTagFaults.tcr2El2Pie = s.tcr2El2Pie := rfl
@[simp] theorem State.syncTagFaults_sctlr2El2Nmea (s : State) : s.syncTagFaults.sctlr2El2Nmea = s.sctlr2El2Nmea := rfl
@[simp] theorem State.syncTagFaults_el2Aarch32 (s : State) : s.syncTagFaults.el2Aarch32 = s.el2Aarch32 := rfl
@[simp] theorem State.syncTagFaults_hcrEl2 (s : State) : s.syncTagFaults.hcrEl2 = s.hcrEl2 := rfl
@[simp] theorem State.syncTagFaults_hcrxEl2 (s : State) : s.syncTagFaults.hcrxEl2 = s.hcrxEl2 := rfl
@[simp] theorem State.syncTagFaults_scrEl3 (s : State) : s.syncTagFaults.scrEl3 = s.scrEl3 := rfl
@[simp] theorem State.syncTagFaults_fgt (s : State) : s.syncTagFaults.fgt = s.fgt := rfl
@[simp] theorem State.syncTagFaults_masks (s : State) : s.syncTagFaults.masks = s.masks := rfl
@[simp] theorem State.syncTagFaults_nvMemBase (s : State) : s.syncTagFaults.nvMemBase = s.nvMemBase := rfl
@[simp] theorem State.syncTagFaults_nvMemFaults (s : State) : s.syncTagFaults.nvMemFaults = s.nvMemFaults := rfl
@[simp] theorem State.syncTagFaults_dbgState (s : State) : s.syncTagFaults.dbgState = s.dbgState := rfl
@[simp] theorem State.syncTagFaults_bankEl1 (s : State) : s.syncTagFaults.bankEl1 = s.bankEl1 := rfl
@[simp] theorem State.syncTagFaults_bankEl2 (s : State) : s.syncTagFaults.bankEl2 = s.bankEl2 := rfl
@[simp] theorem State.syncTagFaults_bankEl3 (s : State) : s.syncTagFaults.bankEl3 = s.bankEl3 := rfl
@[simp] theorem State.syncTagFaults_farEl2 (s : State) : s.syncTagFaults.farEl2 = s.farEl2 := rfl
@[simp] theorem State.syncTagFaults_hpfarEl2 (s : State) : s.syncTagFaults.hpfarEl2 = s.hpfarEl2 := rfl
@[simp] theorem State.syncTagFaults_pendingTagFaults (s : State) : s.syncTagFaults.pendingTagFaults = ⟨0, 0, 0⟩ := rfl
@[simp] theorem State.syncTagFaults_controlled (s : State) : s.syncTagFaults.controlled = s.controlled := rfl
@[simp] theorem State.syncTagFaults_named (s : State) : s.syncTagFaults.named = s.named := rfl
@[simp] theorem State.syncTagFaults_wfeCycles (s : State) : s.syncTagFaults.wfeCycles = s.wfeCycles := rfl
@[simp] theorem State.syncTagFaults_mem (s : State) : s.syncTagFaults.mem = s.mem := rfl
@[simp] theorem State.syncTagFaults_staleFetch (s : State) : s.syncTagFaults.staleFetch = s.staleFetch := rfl
@[simp] theorem State.syncTagFaults_lastException (s : State) : s.syncTagFaults.lastException = s.lastException := rfl
@[simp] theorem State.syncTagFaults_lastReturn (s : State) : s.syncTagFaults.lastReturn = s.lastReturn := rfl
@[simp] theorem State.syncTagFaults_freeCount (s : State) : s.syncTagFaults.freeCount = s.freeCount := rfl

/-! ## `storeBytes` -/

@[simp] theorem State.storeBytes_cfg (s : State) (a : Dword) (bs : List Byte) : (s.storeBytes a bs).cfg = s.cfg := rfl
@[simp] theorem State.storeBytes_x (s : State) (a : Dword) (bs : List Byte) : (s.storeBytes a bs).x = s.x := rfl
@[simp] theorem State.storeBytes_pc (s : State) (a : Dword) (bs : List Byte) : (s.storeBytes a bs).pc = s.pc := rfl
@[simp] theorem State.storeBytes_pstate (s : State) (a : Dword) (bs : List Byte) :
    (s.storeBytes a bs).pstate = s.pstate := rfl
@[simp] theorem State.storeBytes_spEl0 (s : State) (a : Dword) (bs : List Byte) :
    (s.storeBytes a bs).spEl0 = s.spEl0 := rfl
@[simp] theorem State.storeBytes_spEl1 (s : State) (a : Dword) (bs : List Byte) :
    (s.storeBytes a bs).spEl1 = s.spEl1 := rfl
@[simp] theorem State.storeBytes_spEl2 (s : State) (a : Dword) (bs : List Byte) :
    (s.storeBytes a bs).spEl2 = s.spEl2 := rfl
@[simp] theorem State.storeBytes_spEl3 (s : State) (a : Dword) (bs : List Byte) :
    (s.storeBytes a bs).spEl3 = s.spEl3 := rfl
@[simp] theorem State.storeBytes_sctlrEl2 (s : State) (a : Dword) (bs : List Byte) :
    (s.storeBytes a bs).sctlrEl2 = s.sctlrEl2 := rfl
@[simp] theorem State.storeBytes_hfgrtr2El2 (s : State) (a : Dword) (bs : List Byte) :
    (s.storeBytes a bs).hfgrtr2El2 = s.hfgrtr2El2 := rfl
@[simp] theorem State.storeBytes_tcrEl1 (s : State) (a : Dword) (bs : List Byte) :
    (s.storeBytes a bs).tcrEl1 = s.tcrEl1 := rfl
@[simp] theorem State.storeBytes_tcr2El1 (s : State) (a : Dword) (bs : List Byte) :
    (s.storeBytes a bs).tcr2El1 = s.tcr2El1 := rfl
@[simp] theorem State.storeBytes_sctlrEl1 (s : State) (a : Dword) (bs : List Byte) :
    (s.storeBytes a bs).sctlrEl1 = s.sctlrEl1 := rfl
@[simp] theorem State.storeBytes_tcrEl2 (s : State) (a : Dword) (bs : List Byte) :
    (s.storeBytes a bs).tcrEl2 = s.tcrEl2 := rfl
@[simp] theorem State.storeBytes_tcr2El2 (s : State) (a : Dword) (bs : List Byte) :
    (s.storeBytes a bs).tcr2El2 = s.tcr2El2 := rfl
@[simp] theorem State.storeBytes_tcr2El2Pie (s : State) (a : Dword) (bs : List Byte) :
    (s.storeBytes a bs).tcr2El2Pie = s.tcr2El2Pie := rfl
@[simp] theorem State.storeBytes_sctlr2El2Nmea (s : State) (a : Dword) (bs : List Byte) :
    (s.storeBytes a bs).sctlr2El2Nmea = s.sctlr2El2Nmea := rfl
@[simp] theorem State.storeBytes_el2Aarch32 (s : State) (a : Dword) (bs : List Byte) :
    (s.storeBytes a bs).el2Aarch32 = s.el2Aarch32 := rfl
@[simp] theorem State.storeBytes_hcrEl2 (s : State) (a : Dword) (bs : List Byte) :
    (s.storeBytes a bs).hcrEl2 = s.hcrEl2 := rfl
@[simp] theorem State.storeBytes_hcrxEl2 (s : State) (a : Dword) (bs : List Byte) :
    (s.storeBytes a bs).hcrxEl2 = s.hcrxEl2 := rfl
@[simp] theorem State.storeBytes_scrEl3 (s : State) (a : Dword) (bs : List Byte) :
    (s.storeBytes a bs).scrEl3 = s.scrEl3 := rfl
@[simp] theorem State.storeBytes_fgt (s : State) (a : Dword) (bs : List Byte) : (s.storeBytes a bs).fgt = s.fgt := rfl
@[simp] theorem State.storeBytes_masks (s : State) (a : Dword) (bs : List Byte) :
    (s.storeBytes a bs).masks = s.masks := rfl
@[simp] theorem State.storeBytes_nvMemBase (s : State) (a : Dword) (bs : List Byte) :
    (s.storeBytes a bs).nvMemBase = s.nvMemBase := rfl
@[simp] theorem State.storeBytes_nvMemFaults (s : State) (a : Dword) (bs : List Byte) :
    (s.storeBytes a bs).nvMemFaults = s.nvMemFaults := rfl
@[simp] theorem State.storeBytes_dbgState (s : State) (a : Dword) (bs : List Byte) :
    (s.storeBytes a bs).dbgState = s.dbgState := rfl
@[simp] theorem State.storeBytes_bankEl1 (s : State) (a : Dword) (bs : List Byte) :
    (s.storeBytes a bs).bankEl1 = s.bankEl1 := rfl
@[simp] theorem State.storeBytes_bankEl2 (s : State) (a : Dword) (bs : List Byte) :
    (s.storeBytes a bs).bankEl2 = s.bankEl2 := rfl
@[simp] theorem State.storeBytes_bankEl3 (s : State) (a : Dword) (bs : List Byte) :
    (s.storeBytes a bs).bankEl3 = s.bankEl3 := rfl
@[simp] theorem State.storeBytes_farEl2 (s : State) (a : Dword) (bs : List Byte) :
    (s.storeBytes a bs).farEl2 = s.farEl2 := rfl
@[simp] theorem State.storeBytes_hpfarEl2 (s : State) (a : Dword) (bs : List Byte) :
    (s.storeBytes a bs).hpfarEl2 = s.hpfarEl2 := rfl
@[simp] theorem State.storeBytes_tagFaults (s : State) (a : Dword) (bs : List Byte) :
    (s.storeBytes a bs).tagFaults = s.tagFaults := rfl
@[simp] theorem State.storeBytes_pendingTagFaults (s : State) (a : Dword) (bs : List Byte) :
    (s.storeBytes a bs).pendingTagFaults = s.pendingTagFaults := rfl
@[simp] theorem State.storeBytes_controlled (s : State) (a : Dword) (bs : List Byte) :
    (s.storeBytes a bs).controlled = s.controlled := rfl
@[simp] theorem State.storeBytes_named (s : State) (a : Dword) (bs : List Byte) :
    (s.storeBytes a bs).named = s.named := rfl
@[simp] theorem State.storeBytes_wfeCycles (s : State) (a : Dword) (bs : List Byte) :
    (s.storeBytes a bs).wfeCycles = s.wfeCycles := rfl
@[simp] theorem State.storeBytes_mem (s : State) (a : Dword) (bs : List Byte) :
    (s.storeBytes a bs).mem = s.mem.writeBytes (byteAddresses a bs.length) bs := rfl
@[simp] theorem State.storeBytes_lastException (s : State) (a : Dword) (bs : List Byte) :
    (s.storeBytes a bs).lastException = s.lastException := rfl
@[simp] theorem State.storeBytes_lastReturn (s : State) (a : Dword) (bs : List Byte) :
    (s.storeBytes a bs).lastReturn = s.lastReturn := rfl
@[simp] theorem State.storeBytes_freeCount (s : State) (a : Dword) (bs : List Byte) :
    (s.storeBytes a bs).freeCount = s.freeCount := rfl

/-! ## `retire` -/

@[simp] theorem State.retire_cfg (s : State) : s.retire.cfg = s.cfg := rfl
@[simp] theorem State.retire_x (s : State) : s.retire.x = s.x := rfl
@[simp] theorem State.retire_pc (s : State) : s.retire.pc = s.pc + 4 := rfl
@[simp] theorem State.retire_pstate (s : State) : s.retire.pstate = s.pstate := rfl
@[simp] theorem State.retire_spEl0 (s : State) : s.retire.spEl0 = s.spEl0 := rfl
@[simp] theorem State.retire_spEl1 (s : State) : s.retire.spEl1 = s.spEl1 := rfl
@[simp] theorem State.retire_spEl2 (s : State) : s.retire.spEl2 = s.spEl2 := rfl
@[simp] theorem State.retire_spEl3 (s : State) : s.retire.spEl3 = s.spEl3 := rfl
@[simp] theorem State.retire_sctlrEl2 (s : State) : s.retire.sctlrEl2 = s.sctlrEl2 := rfl
@[simp] theorem State.retire_hfgrtr2El2 (s : State) : s.retire.hfgrtr2El2 = s.hfgrtr2El2 := rfl
@[simp] theorem State.retire_tcrEl1 (s : State) : s.retire.tcrEl1 = s.tcrEl1 := rfl
@[simp] theorem State.retire_tcr2El1 (s : State) : s.retire.tcr2El1 = s.tcr2El1 := rfl
@[simp] theorem State.retire_sctlrEl1 (s : State) : s.retire.sctlrEl1 = s.sctlrEl1 := rfl
@[simp] theorem State.retire_tcrEl2 (s : State) : s.retire.tcrEl2 = s.tcrEl2 := rfl
@[simp] theorem State.retire_tcr2El2 (s : State) : s.retire.tcr2El2 = s.tcr2El2 := rfl
@[simp] theorem State.retire_tcr2El2Pie (s : State) : s.retire.tcr2El2Pie = s.tcr2El2Pie := rfl
@[simp] theorem State.retire_sctlr2El2Nmea (s : State) : s.retire.sctlr2El2Nmea = s.sctlr2El2Nmea := rfl
@[simp] theorem State.retire_el2Aarch32 (s : State) : s.retire.el2Aarch32 = s.el2Aarch32 := rfl
@[simp] theorem State.retire_hcrEl2 (s : State) : s.retire.hcrEl2 = s.hcrEl2 := rfl
@[simp] theorem State.retire_hcrxEl2 (s : State) : s.retire.hcrxEl2 = s.hcrxEl2 := rfl
@[simp] theorem State.retire_scrEl3 (s : State) : s.retire.scrEl3 = s.scrEl3 := rfl
@[simp] theorem State.retire_fgt (s : State) : s.retire.fgt = s.fgt := rfl
@[simp] theorem State.retire_masks (s : State) : s.retire.masks = s.masks := rfl
@[simp] theorem State.retire_nvMemBase (s : State) : s.retire.nvMemBase = s.nvMemBase := rfl
@[simp] theorem State.retire_nvMemFaults (s : State) : s.retire.nvMemFaults = s.nvMemFaults := rfl
@[simp] theorem State.retire_dbgState (s : State) : s.retire.dbgState = s.dbgState := rfl
@[simp] theorem State.retire_bankEl1 (s : State) : s.retire.bankEl1 = s.bankEl1 := rfl
@[simp] theorem State.retire_bankEl2 (s : State) : s.retire.bankEl2 = s.bankEl2 := rfl
@[simp] theorem State.retire_bankEl3 (s : State) : s.retire.bankEl3 = s.bankEl3 := rfl
@[simp] theorem State.retire_farEl2 (s : State) : s.retire.farEl2 = s.farEl2 := rfl
@[simp] theorem State.retire_hpfarEl2 (s : State) : s.retire.hpfarEl2 = s.hpfarEl2 := rfl
@[simp] theorem State.retire_tagFaults (s : State) : s.retire.tagFaults = s.tagFaults := rfl
@[simp] theorem State.retire_pendingTagFaults (s : State) : s.retire.pendingTagFaults = s.pendingTagFaults := rfl
@[simp] theorem State.retire_controlled (s : State) : s.retire.controlled = s.controlled := rfl
@[simp] theorem State.retire_named (s : State) : s.retire.named = s.named := rfl
@[simp] theorem State.retire_wfeCycles (s : State) : s.retire.wfeCycles = s.wfeCycles := rfl
@[simp] theorem State.retire_mem (s : State) : s.retire.mem = s.mem := rfl
@[simp] theorem State.retire_staleFetch (s : State) : s.retire.staleFetch = s.staleFetch := rfl
@[simp] theorem State.retire_lastException (s : State) : s.retire.lastException = s.lastException := rfl
@[simp] theorem State.retire_lastReturn (s : State) : s.retire.lastReturn = s.lastReturn := rfl
@[simp] theorem State.retire_freeCount (s : State) : s.retire.freeCount = s.freeCount + Config.drawSlots := rfl

/-! ## `orderRead`: only the order of the accesses to a register with two names changes -/

@[simp] theorem State.orderRead_cfg (s : State) (r : SysReg) : (s.orderRead r).cfg = s.cfg := by
  cases r <;> simp only [State.orderRead]
  split <;> rfl
@[simp] theorem State.orderRead_x (s : State) (r : SysReg) : (s.orderRead r).x = s.x := by
  cases r <;> simp only [State.orderRead]
  split <;> rfl
@[simp] theorem State.orderRead_pc (s : State) (r : SysReg) : (s.orderRead r).pc = s.pc := by
  cases r <;> simp only [State.orderRead]
  split <;> rfl
@[simp] theorem State.orderRead_pstate (s : State) (r : SysReg) : (s.orderRead r).pstate = s.pstate := by
  cases r <;> simp only [State.orderRead]
  split <;> rfl
@[simp] theorem State.orderRead_spEl0 (s : State) (r : SysReg) : (s.orderRead r).spEl0 = s.spEl0 := by
  cases r <;> simp only [State.orderRead]
  split <;> rfl
@[simp] theorem State.orderRead_spEl1 (s : State) (r : SysReg) : (s.orderRead r).spEl1 = s.spEl1 := by
  cases r <;> simp only [State.orderRead]
  split <;> rfl
@[simp] theorem State.orderRead_spEl2 (s : State) (r : SysReg) : (s.orderRead r).spEl2 = s.spEl2 := by
  cases r <;> simp only [State.orderRead]
  split <;> rfl
@[simp] theorem State.orderRead_spEl3 (s : State) (r : SysReg) : (s.orderRead r).spEl3 = s.spEl3 := by
  cases r <;> simp only [State.orderRead]
  split <;> rfl
@[simp] theorem State.orderRead_hfgrtr2El2 (s : State) (r : SysReg) : (s.orderRead r).hfgrtr2El2 = s.hfgrtr2El2 := by
  cases r <;> simp only [State.orderRead]
  split <;> rfl
@[simp] theorem State.orderRead_sctlrEl1 (s : State) (r : SysReg) : (s.orderRead r).sctlrEl1 = s.sctlrEl1 := by
  cases r <;> simp only [State.orderRead]
  split <;> rfl
@[simp] theorem State.orderRead_tcrEl2 (s : State) (r : SysReg) : (s.orderRead r).tcrEl2 = s.tcrEl2 := by
  cases r <;> simp only [State.orderRead]
  split <;> rfl
@[simp] theorem State.orderRead_tcr2El2 (s : State) (r : SysReg) : (s.orderRead r).tcr2El2 = s.tcr2El2 := by
  cases r <;> simp only [State.orderRead]
  split <;> rfl
@[simp] theorem State.orderRead_tcr2El2Pie (s : State) (r : SysReg) : (s.orderRead r).tcr2El2Pie = s.tcr2El2Pie := by
  cases r <;> simp only [State.orderRead]
  split <;> rfl
@[simp] theorem State.orderRead_sctlr2El2Nmea (s : State) (r : SysReg) :
    (s.orderRead r).sctlr2El2Nmea = s.sctlr2El2Nmea := by
  cases r <;> simp only [State.orderRead]
  split <;> rfl
@[simp] theorem State.orderRead_el2Aarch32 (s : State) (r : SysReg) :
    (s.orderRead r).el2Aarch32 = s.el2Aarch32 := by
  cases r <;> simp only [State.orderRead]
  split <;> rfl
@[simp] theorem State.orderRead_hcrEl2 (s : State) (r : SysReg) : (s.orderRead r).hcrEl2 = s.hcrEl2 := by
  cases r <;> simp only [State.orderRead]
  split <;> rfl
@[simp] theorem State.orderRead_hcrxEl2 (s : State) (r : SysReg) : (s.orderRead r).hcrxEl2 = s.hcrxEl2 := by
  cases r <;> simp only [State.orderRead]
  split <;> rfl
@[simp] theorem State.orderRead_scrEl3 (s : State) (r : SysReg) : (s.orderRead r).scrEl3 = s.scrEl3 := by
  cases r <;> simp only [State.orderRead]
  split <;> rfl
@[simp] theorem State.orderRead_fgt (s : State) (r : SysReg) : (s.orderRead r).fgt = s.fgt := by
  cases r <;> simp only [State.orderRead]
  split <;> rfl
@[simp] theorem State.orderRead_masks (s : State) (r : SysReg) : (s.orderRead r).masks = s.masks := by
  cases r <;> simp only [State.orderRead]
  split <;> rfl
@[simp] theorem State.orderRead_nvMemBase (s : State) (r : SysReg) : (s.orderRead r).nvMemBase = s.nvMemBase := by
  cases r <;> simp only [State.orderRead]
  split <;> rfl
@[simp] theorem State.orderRead_nvMemFaults (s : State) (r : SysReg) :
    (s.orderRead r).nvMemFaults = s.nvMemFaults := by
  cases r <;> simp only [State.orderRead]
  split <;> rfl
@[simp] theorem State.orderRead_dbgState (s : State) (r : SysReg) : (s.orderRead r).dbgState = s.dbgState := by
  cases r <;> simp only [State.orderRead]
  split <;> rfl
@[simp] theorem State.orderRead_bankEl1 (s : State) (r : SysReg) : (s.orderRead r).bankEl1 = s.bankEl1 := by
  cases r <;> simp only [State.orderRead]
  split <;> rfl
@[simp] theorem State.orderRead_bankEl2 (s : State) (r : SysReg) : (s.orderRead r).bankEl2 = s.bankEl2 := by
  cases r <;> simp only [State.orderRead]
  split <;> rfl
@[simp] theorem State.orderRead_bankEl3 (s : State) (r : SysReg) : (s.orderRead r).bankEl3 = s.bankEl3 := by
  cases r <;> simp only [State.orderRead]
  split <;> rfl
@[simp] theorem State.orderRead_farEl2 (s : State) (r : SysReg) : (s.orderRead r).farEl2 = s.farEl2 := by
  cases r <;> simp only [State.orderRead]
  split <;> rfl
@[simp] theorem State.orderRead_hpfarEl2 (s : State) (r : SysReg) : (s.orderRead r).hpfarEl2 = s.hpfarEl2 := by
  cases r <;> simp only [State.orderRead]
  split <;> rfl
@[simp] theorem State.orderRead_tagFaults (s : State) (r : SysReg) : (s.orderRead r).tagFaults = s.tagFaults := by
  cases r <;> simp only [State.orderRead]
  split <;> rfl
@[simp] theorem State.orderRead_pendingTagFaults (s : State) (r : SysReg) :
    (s.orderRead r).pendingTagFaults = s.pendingTagFaults := by
  cases r <;> simp only [State.orderRead]
  split <;> rfl
@[simp] theorem State.orderRead_controlled (s : State) (r : SysReg) : (s.orderRead r).controlled = s.controlled := by
  cases r <;> simp only [State.orderRead]
  split <;> rfl
@[simp] theorem State.orderRead_named (s : State) (r : SysReg) : (s.orderRead r).named = s.named := by
  cases r <;> simp only [State.orderRead]
  split <;> rfl
@[simp] theorem State.orderRead_wfeCycles (s : State) (r : SysReg) : (s.orderRead r).wfeCycles = s.wfeCycles := by
  cases r <;> simp only [State.orderRead]
  split <;> rfl
@[simp] theorem State.orderRead_mem (s : State) (r : SysReg) : (s.orderRead r).mem = s.mem := by
  cases r <;> simp only [State.orderRead]
  split <;> rfl
@[simp] theorem State.orderRead_staleFetch (s : State) (r : SysReg) : (s.orderRead r).staleFetch = s.staleFetch := by
  cases r <;> simp only [State.orderRead]
  split <;> rfl
@[simp] theorem State.orderRead_lastException (s : State) (r : SysReg) :
    (s.orderRead r).lastException = s.lastException := by
  cases r <;> simp only [State.orderRead]
  split <;> rfl
@[simp] theorem State.orderRead_lastReturn (s : State) (r : SysReg) :
    (s.orderRead r).lastReturn = s.lastReturn := by
  cases r <;> simp only [State.orderRead]
  split <;> rfl
@[simp] theorem State.orderRead_freeCount (s : State) (r : SysReg) : (s.orderRead r).freeCount = s.freeCount := by
  cases r <;> simp only [State.orderRead]
  split <;> rfl

/-! ## `writeX`: only the general registers change -/

@[simp] theorem State.writeX_cfg (s : State) (t : Nat) (v : Dword) : (s.writeX t v).cfg = s.cfg := by
  unfold State.writeX; split <;> rfl
@[simp] theorem State.writeX_pc (s : State) (t : Nat) (v : Dword) : (s.writeX t v).pc = s.pc := by
  unfold State.writeX; split <;> rfl
@[simp] theorem State.writeX_pstate (s : State) (t : Nat) (v : Dword) : (s.writeX t v).pstate = s.pstate := by
  unfold State.writeX; split <;> rfl
@[simp] theorem State.writeX_spEl0 (s : State) (t : Nat) (v : Dword) : (s.writeX t v).spEl0 = s.spEl0 := by
  unfold State.writeX; split <;> rfl
@[simp] theorem State.writeX_spEl1 (s : State) (t : Nat) (v : Dword) : (s.writeX t v).spEl1 = s.spEl1 := by
  unfold State.writeX; split <;> rfl
@[simp] theorem State.writeX_spEl2 (s : State) (t : Nat) (v : Dword) : (s.writeX t v).spEl2 = s.spEl2 := by
  unfold State.writeX; split <;> rfl
@[simp] theorem State.writeX_spEl3 (s : State) (t : Nat) (v : Dword) : (s.writeX t v).spEl3 = s.spEl3 := by
  unfold State.writeX; split <;> rfl
@[simp] theorem State.writeX_sctlrEl2 (s : State) (t : Nat) (v : Dword) : (s.writeX t v).sctlrEl2 = s.sctlrEl2 := by
  unfold State.writeX; split <;> rfl
@[simp] theorem State.writeX_hfgrtr2El2 (s : State) (t : Nat) (v : Dword) :
    (s.writeX t v).hfgrtr2El2 = s.hfgrtr2El2 := by
  unfold State.writeX; split <;> rfl
@[simp] theorem State.writeX_tcrEl1 (s : State) (t : Nat) (v : Dword) : (s.writeX t v).tcrEl1 = s.tcrEl1 := by
  unfold State.writeX; split <;> rfl
@[simp] theorem State.writeX_tcr2El1 (s : State) (t : Nat) (v : Dword) : (s.writeX t v).tcr2El1 = s.tcr2El1 := by
  unfold State.writeX; split <;> rfl
@[simp] theorem State.writeX_sctlrEl1 (s : State) (t : Nat) (v : Dword) : (s.writeX t v).sctlrEl1 = s.sctlrEl1 := by
  unfold State.writeX; split <;> rfl
@[simp] theorem State.writeX_tcrEl2 (s : State) (t : Nat) (v : Dword) : (s.writeX t v).tcrEl2 = s.tcrEl2 := by
  unfold State.writeX; split <;> rfl
@[simp] theorem State.writeX_tcr2El2 (s : State) (t : Nat) (v : Dword) : (s.writeX t v).tcr2El2 = s.tcr2El2 := by
  unfold State.writeX; split <;> rfl
@[simp] theorem State.writeX_tcr2El2Pie (s : State) (t : Nat) (v : Dword) :
    (s.writeX t v).tcr2El2Pie = s.tcr2El2Pie := by
  unfold State.writeX; split <;> rfl
@[simp] theorem State.writeX_sctlr2El2Nmea (s : State) (t : Nat) (v : Dword) :
    (s.writeX t v).sctlr2El2Nmea = s.sctlr2El2Nmea := by
  unfold State.writeX; split <;> rfl
@[simp] theorem State.writeX_el2Aarch32 (s : State) (t : Nat) (v : Dword) :
    (s.writeX t v).el2Aarch32 = s.el2Aarch32 := by
  unfold State.writeX; split <;> rfl
@[simp] theorem State.writeX_hcrEl2 (s : State) (t : Nat) (v : Dword) : (s.writeX t v).hcrEl2 = s.hcrEl2 := by
  unfold State.writeX; split <;> rfl
@[simp] theorem State.writeX_hcrxEl2 (s : State) (t : Nat) (v : Dword) : (s.writeX t v).hcrxEl2 = s.hcrxEl2 := by
  unfold State.writeX; split <;> rfl
@[simp] theorem State.writeX_scrEl3 (s : State) (t : Nat) (v : Dword) : (s.writeX t v).scrEl3 = s.scrEl3 := by
  unfold State.writeX; split <;> rfl
@[simp] theorem State.writeX_fgt (s : State) (t : Nat) (v : Dword) : (s.writeX t v).fgt = s.fgt := by
  unfold State.writeX; split <;> rfl
@[simp] theorem State.writeX_masks (s : State) (t : Nat) (v : Dword) : (s.writeX t v).masks = s.masks := by
  unfold State.writeX; split <;> rfl
@[simp] theorem State.writeX_nvMemBase (s : State) (t : Nat) (v : Dword) :
    (s.writeX t v).nvMemBase = s.nvMemBase := by
  unfold State.writeX; split <;> rfl
@[simp] theorem State.writeX_nvMemFaults (s : State) (t : Nat) (v : Dword) :
    (s.writeX t v).nvMemFaults = s.nvMemFaults := by
  unfold State.writeX; split <;> rfl
@[simp] theorem State.writeX_dbgState (s : State) (t : Nat) (v : Dword) : (s.writeX t v).dbgState = s.dbgState := by
  unfold State.writeX; split <;> rfl
@[simp] theorem State.writeX_bankEl1 (s : State) (t : Nat) (v : Dword) : (s.writeX t v).bankEl1 = s.bankEl1 := by
  unfold State.writeX; split <;> rfl
@[simp] theorem State.writeX_bankEl2 (s : State) (t : Nat) (v : Dword) : (s.writeX t v).bankEl2 = s.bankEl2 := by
  unfold State.writeX; split <;> rfl
@[simp] theorem State.writeX_bankEl3 (s : State) (t : Nat) (v : Dword) : (s.writeX t v).bankEl3 = s.bankEl3 := by
  unfold State.writeX; split <;> rfl
@[simp] theorem State.writeX_farEl2 (s : State) (t : Nat) (v : Dword) : (s.writeX t v).farEl2 = s.farEl2 := by
  unfold State.writeX; split <;> rfl
@[simp] theorem State.writeX_hpfarEl2 (s : State) (t : Nat) (v : Dword) : (s.writeX t v).hpfarEl2 = s.hpfarEl2 := by
  unfold State.writeX; split <;> rfl
@[simp] theorem State.writeX_tagFaults (s : State) (t : Nat) (v : Dword) :
    (s.writeX t v).tagFaults = s.tagFaults := by
  unfold State.writeX; split <;> rfl
@[simp] theorem State.writeX_pendingTagFaults (s : State) (t : Nat) (v : Dword) :
    (s.writeX t v).pendingTagFaults = s.pendingTagFaults := by
  unfold State.writeX; split <;> rfl
@[simp] theorem State.writeX_controlled (s : State) (t : Nat) (v : Dword) :
    (s.writeX t v).controlled = s.controlled := by
  unfold State.writeX; split <;> rfl
@[simp] theorem State.writeX_named (s : State) (t : Nat) (v : Dword) : (s.writeX t v).named = s.named := by
  unfold State.writeX; split <;> rfl
@[simp] theorem State.writeX_wfeCycles (s : State) (t : Nat) (v : Dword) :
    (s.writeX t v).wfeCycles = s.wfeCycles := by
  unfold State.writeX; split <;> rfl
@[simp] theorem State.writeX_mem (s : State) (t : Nat) (v : Dword) : (s.writeX t v).mem = s.mem := by
  unfold State.writeX; split <;> rfl
@[simp] theorem State.writeX_staleFetch (s : State) (t : Nat) (v : Dword) :
    (s.writeX t v).staleFetch = s.staleFetch := by
  unfold State.writeX; split <;> rfl
@[simp] theorem State.writeX_lastException (s : State) (t : Nat) (v : Dword) :
    (s.writeX t v).lastException = s.lastException := by
  unfold State.writeX; split <;> rfl
@[simp] theorem State.writeX_lastReturn (s : State) (t : Nat) (v : Dword) :
    (s.writeX t v).lastReturn = s.lastReturn := by
  unfold State.writeX; split <;> rfl
@[simp] theorem State.writeX_freeCount (s : State) (t : Nat) (v : Dword) :
    (s.writeX t v).freeCount = s.freeCount := by
  unfold State.writeX; split <;> rfl

end Sys2Proof.Machine
end

