-- ==== Sys2Proof/Laws/Ops.lean ====
section
/-! SUPPORT. What each shared operation can do, once: reading into a general register, storing to NVMem, writing an
owned register, taking an exception. -/

namespace Sys2Proof.Machine

/-! ## General registers -/

theorem State.readX_writeX_same (s : State) (t : Nat) (v : Dword) (h : t < 31) : (s.writeX t v).readX t = v := by
  simp [State.writeX, State.readX, h]

theorem State.readX_writeX_other (s : State) (t r : Nat) (v : Dword) (h : r ≠ t) :
    (s.writeX t v).readX r = s.readX r := by
  unfold State.writeX
  split
  · unfold State.readX
    split
    · simp [Ne.symm h]
    · rfl
  · rfl

/-- The zero register reads as 0 (D4). -/
@[simp] theorem State.readX_zero (s : State) : s.readX 31 = 0 := by simp [State.readX]

/-- A write to the zero register is discarded (D4). -/
@[simp] theorem State.writeX_zero (s : State) (v : Dword) : s.writeX 31 v = s := by simp [State.writeX]

theorem State.readX_congr {s t : State} (h : s.x = t.x) (r : Nat) : s.readX r = t.readX r := by
  simp [State.readX, h]

@[simp] theorem State.retire_readX (s : State) (r : Nat) : s.retire.readX r = s.readX r := rfl
@[simp] theorem State.retire_byteAt (s : State) (a : Nat) : s.retire.byteAt a = s.byteAt a := rfl
@[simp] theorem State.writeX_byteAt (s : State) (t : Nat) (v : Dword) (a : Nat) :
    (s.writeX t v).byteAt a = s.byteAt a := by simp [State.byteAt]

/-- The course of a read that completes. -/
theorem State.writeX_retire_readsInto (s : State) (t : Nat) (v : Dword) : ReadsInto s (s.writeX t v).retire t v := by
  refine ⟨fun h => ?_, fun r h => ?_, ?_, fun a => ?_, ?_⟩
  · simpa using s.readX_writeX_same t v h
  · simpa using s.readX_writeX_other t r v h
  · simp
  · simp
  · unfold State.writeX
    split <;> rfl

/-! ## NVMem -/

theorem bytesOfDword_getElem (v : Dword) (i : Nat) (h : i < (bytesOfDword v).length) :
    (bytesOfDword v)[i] = v.extractLsb' (8 * i) 8 := by
  have h' : i < 8 := h
  interval_cases i <;> rfl

theorem orderedBytes_length (b : Bool) (v : Dword) : (orderedBytes b v).length = 8 := by
  cases b <;> simp [orderedBytes, bytesOfDword]

theorem orderedBytes_getElem (b : Bool) (v : Dword) (i : Nat) (h : i < (orderedBytes b v).length) :
    (orderedBytes b v)[i] = v.extractLsb' (8 * (if b then 7 - i else i)) 8 := by
  have h' : i < 8 := by rwa [orderedBytes_length] at h
  cases b <;> interval_cases i <;> rfl

@[simp] theorem State.storeBytes_retire_byteAt (s : State) (a : Dword) (bs : List Byte) (k : Nat) :
    (s.storeBytes a bs).retire.byteAt k = (s.storeBytes a bs).byteAt k := rfl

/-- The course of an MSR that is redirected to NVMem. -/
theorem State.nvMemWrite_retire_stores (s : State) (offset v : Dword) (h : s.mem.wf = true) :
    StoresDword s (s.nvMemWrite offset v).retire (s.nvMemAddress offset) s.nvMemBigEndian v := by
  unfold State.nvMemWrite
  generalize s.nvMemAddress offset = a
  generalize s.nvMemBigEndian = be
  have hl := orderedBytes_length be v
  refine ⟨fun i hi => ?_, fun k hk => ?_, by simp, ?_⟩
  · rw [State.storeBytes_retire_byteAt, s.storeBytes_byteAt a _ h (by rw [hl]; decide) i (by omega),
      orderedBytes_getElem]
  · rw [State.storeBytes_retire_byteAt]
    exact s.storeBytes_byteAt_other _ _ _ (by rwa [hl])
  · revert hl
    generalize orderedBytes be v = bs
    intro hl
    rw [← hl]
    rfl

/-! ## Exceptions -/

theorem EL.ofCode_code (el : EL) : EL.ofCode el.code = el := by cases el <;> rfl

/-- PSTATE as restored depends on the modelled bits of SPSR only. -/
theorem pstateOfSpsr_mergeBits (rest w : Dword) : pstateOfSpsr (mergeBits spsrModelled rest w) = pstateOfSpsr w := by
  have bit : ∀ n, spsrModelled.getLsbD n = true → (mergeBits spsrModelled rest w).getLsbD n = w.getLsbD n := by
    intro n hm
    rw [mergeBits_bit, hm, if_pos rfl]
  have pair : ∀ lo, spsrModelled.getLsbD lo = true → spsrModelled.getLsbD (lo + 1) = true →
      (mergeBits spsrModelled rest w).extractLsb' lo 2 = w.extractLsb' lo 2 := by
    intro lo h0 h1
    apply BitVec.eq_of_getLsbD_eq
    intro i hi
    simp only [BitVec.getLsbD_extractLsb', hi, decide_true, Bool.true_and]
    obtain rfl | rfl : i = 0 ∨ i = 1 := by omega
    · exact bit _ h0
    · exact bit _ h1
  unfold pstateOfSpsr bitAt
  rw [pair 2 (by decide) (by decide), pair 10 (by decide) (by decide), bit 0 (by decide), bit 13 (by decide),
    bit 22 (by decide), bit 12 (by decide)]

/-- Saving PSTATE loses no modelled field. -/
theorem pstateOfSpsr_spsrOfPState (p : PState) (rest : Dword) : pstateOfSpsr (spsrOfPState p rest) = p := by
  unfold spsrOfPState
  rw [pstateOfSpsr_mergeBits]
  obtain ⟨el, sp, allint, pan, ssbs, btype⟩ := p
  revert btype
  cases el <;> cases sp <;> cases allint <;> cases pan <;> cases ssbs <;> decide

@[simp] theorem State.bank_setBank (s : State) (el : EL) (b : ExceptionBank) (h : el ≠ .el0) :
    (s.setBank el b).bank el = b := by
  cases el <;> first | exact absurd rfl h | rfl

/-- The parts of entry that the spec leaves to the surrounding PE model. -/
theorem State.takeException_enters (s : State) (kind : ExcKind) (target : EL) (cause : ExcCause)
    (iss : Option (BitVec 25)) (h : target ≠ .el0) :
    EntersHandler s (s.takeException kind target cause iss) target := by
  cases target with
  | el0 => exact absurd rfl h
  | el1 => exact ⟨pstateOfSpsr_spsrOfPState _ _, rfl, rfl, _, _, rfl⟩
  | el3 => exact ⟨pstateOfSpsr_spsrOfPState _ _, rfl, rfl, false, false, rfl⟩
  | el2 =>
    unfold State.takeException State.enterEl2
    simp only
    generalize entrySynchronizes s _ = cs
    generalize entrySyncsTagFaults s _ = ts
    cases cs <;> cases ts <;> exact ⟨pstateOfSpsr_spsrOfPState _ _, rfl, rfl, false, false, rfl⟩

/-- All that an exception to EL1, EL2 or EL3 does, whatever SCTLR_EL2 holds. -/
theorem State.takeException_takes (s : State) (kind : ExcKind) (target : EL) (cause : ExcCause)
    (iss : Option (BitVec 25)) (h : target ≠ .el0) :
    TakesException s (s.takeException kind target cause iss) kind target cause iss := by
  have hesr : ∀ free : Dword, ∀ d : BitVec 25, ∀ u : BitVec 32,
      ∃ upper ec issBits, (cause = .ec ec ∨ ∃ f, cause = .fault f) ∧
        (iss = none ∨ (iss = some issBits ∧ upper = 0)) ∧
        syndrome (if iss.isSome then 0 else u) (match cause with
          | .ec code => code
          | .fault _ => free.setWidth 6) (iss.getD d) = syndrome upper ec issBits := by
    intro free d u
    refine ⟨_, _, iss.getD d, ?_, by cases iss <;> simp, rfl⟩
    cases cause with
    | ec code => exact .inl rfl
    | fault f => exact .inr ⟨f, rfl⟩
  have he := s.takeException_enters kind target cause iss h
  cases target with
  | el0 => exact absurd rfl h
  | el1 => exact ⟨rfl, rfl, rfl, hesr _ _ _, ⟨_, _, rfl, rfl⟩, rfl, rfl, rfl, rfl, fun _ => rfl, he, rfl⟩
  | el3 => exact ⟨rfl, rfl, rfl, hesr _ _ _, ⟨_, _, rfl, rfl⟩, rfl, rfl, rfl, rfl, fun _ => rfl, he, rfl⟩
  | el2 =>
    revert he
    unfold State.takeException State.enterEl2
    simp only
    generalize entrySynchronizes s _ = cs
    generalize errorSyncAdded s _ _ _ = es
    generalize entrySyncsTagFaults s _ = ts
    intro he
    cases cs <;> cases ts <;>
      exact ⟨rfl, rfl, rfl, hesr _ _ _, ⟨_, _, rfl, rfl⟩, rfl, rfl, rfl, rfl, fun _ => rfl, he, rfl⟩

/-- All that an exception return does where it is not refused. -/
theorem State.exceptionReturn_next (s : State)
    (h : s.returnRefused (pstateOfSpsr (s.bank s.pstate.el).spsr).el = false) :
    ∃ t, s.exceptionReturn = .next t ∧
      let b := s.bank s.pstate.el
      let p := pstateOfSpsr b.spsr
      let cs := isContextSync s (s.sctlrView slotReturn) (.exceptionReturn s.pstate.el)
      let es := errorSyncAdded s (s.sctlrView (slotReturn + 2)) (s.draw (slotReturn + 3)) .beforeExceptionReturn
      t = { (if cs then s.contextSync else s) with
        pstate := p
        pc := if s.usesTcrEl1 p.el then s.pcTarget b.elr (slotReturn + 1) else b.elr
        lastReturn := some ⟨s.pstate.el, p.el, cs, es⟩
        freeCount := t.freeCount } := by
  unfold State.exceptionReturn
  simp only [h, Bool.false_eq_true, if_false]
  refine ⟨_, rfl, ?_⟩
  generalize isContextSync s _ _ = cs
  cases cs <;> rfl

/-- A fault of an NVMem access. -/
theorem State.nvMemFault_takes (s : State) : TakesException s s.nvMemFault .fault .el2 (.fault .nvMemAccess) none :=
  s.takeException_takes .fault .el2 (.fault .nvMemAccess) none (by decide)

theorem State.undefinedTarget_ne (s : State) : s.undefinedTarget ≠ .el0 := by
  unfold State.undefinedTarget
  split
  · split <;> nofun
  all_goals nofun

/-- An UNDEFINED instruction. -/
theorem State.takeUndefined_isUndefined (s : State) : IsUndefined s s.takeUndefined :=
  s.takeException_takes _ _ _ _ s.undefinedTarget_ne

/-- A trapped access. -/
theorem State.systemAccessTrap_trapsTo (s : State) (target : EL) (w : InstrWord) (h : target ≠ .el0) :
    TrapsTo s (s.systemAccessTrap target w) target w :=
  s.takeException_takes _ _ _ _ h

/-- A redirected MRS. -/
theorem State.nvMem_reads (s : State) (t : Nat) (offset : Dword) :
    ReadsNvMem s (if s.nvMemFaults.onRead then s.nvMemFault else (s.writeX t (s.nvMemRead offset)).retire) t
      offset := by
  unfold ReadsNvMem
  split
  · exact s.nvMemFault_takes
  · exact s.writeX_retire_readsInto _ _

/-- A redirected MSR. -/
theorem State.nvMem_stores (s : State) (t : Nat) (offset : Dword) (h : s.mem.wf = true) :
    StoresNvMem s (if s.nvMemFaults.onWrite then s.nvMemFault else (s.nvMemWrite offset (s.readX t)).retire) t
      (s.nvMemBase + offset) := by
  unfold StoresNvMem
  split
  · exact s.nvMemFault_takes
  · exact s.nvMemWrite_retire_stores _ _ h

/-! ## The owned registers -/

@[simp] theorem State.orderRead_sctlrEl2_val (s : State) (r : SysReg) :
    (s.orderRead r).sctlrEl2.val = s.sctlrEl2.val := by
  cases r <;> simp only [State.orderRead]
  split <;> simp

@[simp] theorem State.orderRead_tcrEl1_val (s : State) (r : SysReg) : (s.orderRead r).tcrEl1.val = s.tcrEl1.val := by
  cases r <;> simp only [State.orderRead, CtlReg.afterRead_val]
  split <;> rfl

@[simp] theorem State.orderRead_tcr2El1_val (s : State) (r : SysReg) :
    (s.orderRead r).tcr2El1.val = s.tcr2El1.val := by
  cases r <;> simp only [State.orderRead, CtlReg.afterRead_val]
  split <;> rfl

/-- A read of SCTLR_EL2. -/
theorem State.orderRead_sctlrEl2_reads (s : State) (n : AccessName) (t : Nat) :
    ReadsSctlrEl2 s ((s.orderRead (.sctlrEl2 n)).writeX t (s.readReg (.sctlrEl2 n))).retire t n := by
  unfold ReadsSctlrEl2 State.readReg State.readBack State.orderRead
  cases h : s.cfg.haveEL2
  · exact s.writeX_retire_readsInto t 0
  · simp only [if_true, State.retire_sctlrEl2, State.writeX_sctlrEl2]
    exact ⟨_, s.sctlrEl2.directRead_inOrder _ n (s.draw slotRead), State.writeX_retire_readsInto _ t _⟩

/-- A read of TCR2_EL1. -/
theorem State.orderRead_tcr2El1_reads (s : State) (n : AccessName) (t : Nat) :
    ReadsTcr2El1 s ((s.orderRead (.tcr2El1 n)).writeX t (s.readReg (.tcr2El1 n))).retire t n := by
  unfold ReadsTcr2El1
  simp only [State.retire_tcr2El1, State.writeX_tcr2El1]
  exact ⟨_, s.tcr2El1.directRead_inOrder _ n (s.draw slotRead), State.writeX_retire_readsInto _ t _⟩

/-- A read of TCR_EL1. -/
theorem State.orderRead_tcrEl1_reads (s : State) (n : AccessName) (t : Nat) :
    ReadsTcrEl1 s ((s.orderRead (.tcrEl1 n)).writeX t (s.readReg (.tcrEl1 n))).retire t n := by
  unfold ReadsTcrEl1
  simp only [State.retire_tcrEl1, State.writeX_tcrEl1]
  exact ⟨_, s.tcrEl1.directRead_inOrder _ n (s.draw slotRead), State.writeX_retire_readsInto _ t _⟩

/-- A write of SCTLR_EL2. -/
theorem State.writeReg_sctlrEl2 (s : State) (n : AccessName) (t : Nat) (m : Dword) :
    WritesSctlrEl2 s (s.writeReg (.sctlrEl2 n) (s.readX t) m).retire t n m := by
  unfold WritesSctlrEl2 State.writeReg
  cases h : s.cfg.haveEL2
  · exact ⟨rfl, fun _ => rfl⟩
  · exact ⟨s.sctlrEl2.directWrite_inOrder .., rfl, fun _ => rfl⟩

/-- A write of HFGRTR2_EL2 on an implementation that has it; its accessors do not mask. -/
theorem State.writeReg_hfgrtr2El2 (s : State) (v : Dword) (h : s.cfg.haveEL2 = true) :
    WritesOwned s (s.writeReg .hfgrtr2El2 v 0).retire (fun s r => { s with hfgrtr2El2 := r }) s.hfgrtr2El2
      (s.writeReg .hfgrtr2El2 v 0).retire.hfgrtr2El2 false false .unpaired ((hfgrtr2Constants s.cfg).apply v) 0 := by
  have hm : (hfgrtr2Constants s.cfg).maskOnStorage 0 = 0 := BitVec.zero_and
  simp only [State.writeReg, h, if_true, hm]
  exact ⟨s.hfgrtr2El2.directWrite_inOrder .., rfl, fun _ => rfl⟩

/-- A write of TCR2_EL1. -/
theorem State.writeReg_tcr2El1 (s : State) (n : AccessName) (t : Nat) (m : Dword) :
    WritesTcr2El1 s (s.writeReg (.tcr2El1 n) (s.readX t) m).retire t n m :=
  ⟨s.tcr2El1.directWrite_inOrder .., rfl, fun _ => rfl⟩

/-- A write of TCR_EL1. -/
theorem State.writeReg_tcrEl1 (s : State) (n : AccessName) (t : Nat) (m : Dword) :
    WritesTcrEl1 s (s.writeReg (.tcrEl1 n) (s.readX t) m).retire t n m :=
  ⟨s.tcrEl1.directWrite_inOrder .., rfl, fun _ => rfl⟩

/-! ## The shared course of an MRS and an MSR -/

/-- What an MRS does, by the outcome of its checks. -/
theorem performRead_spec (i : Instr) (a : Access) (s : State) (h : a ≠ .trap .el0) :
    ∃ t, performRead i a s = .next t ∧
      match a with
      | .undefined => IsUndefined s t
      | .trap target => TrapsTo s t target (encode i)
      | .nvMem offset => ReadsNvMem s t i.rt offset
      | .register r _ => t = ((s.orderRead r).writeX i.rt (s.readReg r)).retire := by
  cases a with
  | undefined => exact ⟨_, rfl, s.takeUndefined_isUndefined⟩
  | trap target => exact ⟨_, rfl, s.systemAccessTrap_trapsTo target _ (fun ht => h (ht ▸ rfl))⟩
  | nvMem offset => exact ⟨_, rfl, s.nvMem_reads _ _⟩
  | register r m => exact ⟨_, rfl, rfl⟩

/-- What an MSR does, by the outcome of its checks. -/
theorem performWrite_spec (i : Instr) (a : Access) (s : State) (h : a ≠ .trap .el0) (hm : s.mem.wf = true) :
    ∃ t, performWrite i a s = .next t ∧
      match a with
      | .undefined => IsUndefined s t
      | .trap target => TrapsTo s t target (encode i)
      | .nvMem offset => StoresNvMem s t i.rt (s.nvMemBase + offset)
      | .register r m => t = (s.writeReg r (s.readX i.rt) m).retire := by
  cases a with
  | undefined => exact ⟨_, rfl, s.takeUndefined_isUndefined⟩
  | trap target => exact ⟨_, rfl, s.systemAccessTrap_trapsTo target _ (fun ht => h (ht ▸ rfl))⟩
  | nvMem offset => exact ⟨_, rfl, s.nvMem_stores _ _ hm⟩
  | register r m => exact ⟨_, rfl, rfl⟩

/-- A read of a register that stands in no pair of names only reads. -/
theorem State.read_plain_readsInto (s : State) (r : SysReg) (t : Nat) (h : s.orderRead r = s) :
    ReadsInto s ((s.orderRead r).writeX t (s.readReg r)).retire t (s.readReg r) := by
  rw [h]
  exact s.writeX_retire_readsInto _ _

end Sys2Proof.Machine
end

