-- ==== Sys2Proof/Laws/PerInstr.lean ====
section
/-! SUPPORT. What the encoder puts into a word, for each instruction: the class bits, the direction, the System
register coordinate and Rt stand where R92 places them. -/

namespace Sys2Proof.Laws

/-- The class test of R92 holds of every word the formula builds. -/
theorem sysMoveWord_isSysMove (r : Bool) (c : Coordinate) (t : BitVec 5) : isSysMove (sysMoveWord r c t) = true := by
  unfold isSysMove sysMoveWord
  rw [decide_eq_true_eq]
  apply BitVec.eq_of_getLsbD_eq
  intro i hi
  simp only [BitVec.getLsbD_and, BitVec.getLsbD_append]
  interval_cases i <;> simp

theorem sysMoveWord_isRead (r : Bool) (c : Coordinate) (t : BitVec 5) : wordIsRead (sysMoveWord r c t) = r := by
  simp only [wordIsRead, sysMoveWord, BitVec.getLsbD_append]
  simp

theorem sysMoveWord_rt (r : Bool) (c : Coordinate) (t : BitVec 5) : wordRt (sysMoveWord r c t) = t.toNat := by
  unfold wordRt
  congr 1
  apply BitVec.eq_of_getLsbD_eq
  intro i hi
  simp only [BitVec.getLsbD_extractLsb', sysMoveWord, BitVec.getLsbD_append]
  interval_cases i <;> simp

theorem sysMoveWord_coordinate (r : Bool) (c : Coordinate) (t : BitVec 5) :
    wordCoordinate (sysMoveWord r c t) = c := by
  obtain ⟨op1, crn, crm, op2⟩ := c
  unfold wordCoordinate sysMoveWord
  congr 1 <;>
  · apply BitVec.eq_of_getLsbD_eq
    intro i hi
    simp only [BitVec.getLsbD_extractLsb', BitVec.getLsbD_append]
    interval_cases i <;> simp

/-- The word of an instruction carries its class, its direction, its coordinate and its register number. -/
def EncodeFixed.Statement (i : Instr) : Prop :=
  isSysMove (encode i) = true ∧ wordIsRead (encode i) = i.isRead ∧ wordCoordinate (encode i) = i.coordinate ∧
    wordRt (encode i) = i.rt % 32

/-- `EncodeFixed.Statement` from the formula of R92. -/
theorem encodeFixed_all (i : Instr) : EncodeFixed.Statement i :=
  ⟨sysMoveWord_isSysMove _ _ _, sysMoveWord_isRead _ _ _, sysMoveWord_coordinate _ _ _,
   (sysMoveWord_rt _ _ _).trans (BitVec.toNat_ofNat _ _)⟩

theorem EncodeFixed.mrsSctlrEl2 (rt : Nat) : EncodeFixed.Statement (.mrsSctlrEl2 rt) := encodeFixed_all _
theorem EncodeFixed.msrSctlrEl2 (rt : Nat) : EncodeFixed.Statement (.msrSctlrEl2 rt) := encodeFixed_all _
theorem EncodeFixed.mrsSctlrEl1 (rt : Nat) : EncodeFixed.Statement (.mrsSctlrEl1 rt) := encodeFixed_all _
theorem EncodeFixed.msrSctlrEl1 (rt : Nat) : EncodeFixed.Statement (.msrSctlrEl1 rt) := encodeFixed_all _
theorem EncodeFixed.mrsHfgrtr2El2 (rt : Nat) : EncodeFixed.Statement (.mrsHfgrtr2El2 rt) := encodeFixed_all _
theorem EncodeFixed.msrHfgrtr2El2 (rt : Nat) : EncodeFixed.Statement (.msrHfgrtr2El2 rt) := encodeFixed_all _
theorem EncodeFixed.mrsIdAa64dfr0El1 (rt : Nat) : EncodeFixed.Statement (.mrsIdAa64dfr0El1 rt) := encodeFixed_all _
theorem EncodeFixed.mrsIdAa64isar1El1 (rt : Nat) : EncodeFixed.Statement (.mrsIdAa64isar1El1 rt) := encodeFixed_all _
theorem EncodeFixed.mrsIdAa64isar2El1 (rt : Nat) : EncodeFixed.Statement (.mrsIdAa64isar2El1 rt) := encodeFixed_all _
theorem EncodeFixed.mrsIdAa64smfr0El1 (rt : Nat) : EncodeFixed.Statement (.mrsIdAa64smfr0El1 rt) := encodeFixed_all _
theorem EncodeFixed.mrsTcr2El1 (rt : Nat) : EncodeFixed.Statement (.mrsTcr2El1 rt) := encodeFixed_all _
theorem EncodeFixed.msrTcr2El1 (rt : Nat) : EncodeFixed.Statement (.msrTcr2El1 rt) := encodeFixed_all _
theorem EncodeFixed.mrsTcr2El12 (rt : Nat) : EncodeFixed.Statement (.mrsTcr2El12 rt) := encodeFixed_all _
theorem EncodeFixed.msrTcr2El12 (rt : Nat) : EncodeFixed.Statement (.msrTcr2El12 rt) := encodeFixed_all _
theorem EncodeFixed.mrsTcr2aliasEl1 (rt : Nat) : EncodeFixed.Statement (.mrsTcr2aliasEl1 rt) := encodeFixed_all _
theorem EncodeFixed.msrTcr2aliasEl1 (rt : Nat) : EncodeFixed.Statement (.msrTcr2aliasEl1 rt) := encodeFixed_all _
theorem EncodeFixed.mrsTcrEl1 (rt : Nat) : EncodeFixed.Statement (.mrsTcrEl1 rt) := encodeFixed_all _
theorem EncodeFixed.msrTcrEl1 (rt : Nat) : EncodeFixed.Statement (.msrTcrEl1 rt) := encodeFixed_all _
theorem EncodeFixed.mrsTcrEl12 (rt : Nat) : EncodeFixed.Statement (.mrsTcrEl12 rt) := encodeFixed_all _
theorem EncodeFixed.msrTcrEl12 (rt : Nat) : EncodeFixed.Statement (.msrTcrEl12 rt) := encodeFixed_all _
theorem EncodeFixed.mrsTcraliasEl1 (rt : Nat) : EncodeFixed.Statement (.mrsTcraliasEl1 rt) := encodeFixed_all _
theorem EncodeFixed.msrTcraliasEl1 (rt : Nat) : EncodeFixed.Statement (.msrTcraliasEl1 rt) := encodeFixed_all _

end Sys2Proof.Laws
end

