-- ==== Sys2Proof/Laws/Translation.lean ====
section
/-! SUPPORT. What the granule of a region and the base of its first table can be. -/

namespace Sys2Proof.Machine

/-- The granule that acts is implemented, whatever is programmed (R450, R457). -/
theorem granuleOf_implemented (c : Config) (v : Dword) (r : Region) (h : granulesLegal c = true) :
    granuleOf c v r ∈ c.granules := by
  unfold granulesLegal at h
  simp only [Bool.and_eq_true, List.contains_iff_mem] at h
  have key : ∀ p f, f ∈ c.granules → granuleOr c p f ∈ c.granules := by
    intro p f hf
    unfold granuleOr
    split
    · split
      · exact List.contains_iff_mem.1 ‹_›
      · exact hf
    · exact hf
  cases r
  · exact key _ _ h.1
  · exact key _ _ h.2

/-- Where DS says nothing, no function answers what it makes of a descriptor or of a base. -/
theorem dsGoverns_false (s : State) (v v2 : Dword) (r : Region) (h : dsGoverns s v v2 r = false) (d : Dword) :
    descriptorBits49To48 s v v2 r d = none ∧ (∀ k, descriptorBits9To8 s v v2 r k d = none) ∧
      descriptorOutputTop s v v2 r d = none ∧ ∀ n, startTableBase s v v2 r n d = none := by
  simp [descriptorBits49To48, descriptorBits9To8, descriptorOutputTop, startTableBase, h]

/-- The base of the first table: its bits [51:48] are bits [5:2] of the TTBR with DS 1 and 0 with DS 0; the bits below
48 are those of `base`, but for the low six of a table of fewer than 8 entries with DS 1 (R425). -/
theorem startTableBase_bits (s : State) (v v2 : Dword) (r : Region) (n : Nat) (base b : Dword)
    (h : startTableBase s v v2 r n base = some b) :
    b.extractLsb' 48 4 = (if effDs s v v2 r then (ttbrOf s r).extractLsb' 2 4 else 0) ∧
      ∀ i, i < 48 →
        b.getLsbD i = (base.getLsbD i && !(effDs s v v2 r && decide (n < 8) && decide (i < 6))) := by
  have top : ∀ (t : BitVec 4) (a : Dword),
      (mergeBits (fieldMask 48 4) a (t.setWidth 64 <<< 48)).extractLsb' 48 4 = t ∧
        ∀ i, i < 48 → (mergeBits (fieldMask 48 4) a (t.setWidth 64 <<< 48)).getLsbD i = a.getLsbD i := by
    intro t a
    have hm : fieldMask 48 4 = 0xF000000000000#64 := by decide
    rw [hm]
    refine ⟨?_, fun i hi => ?_⟩
    · apply BitVec.eq_of_getLsbD_eq
      intro i hi
      simp only [mergeBits, BitVec.getLsbD_extractLsb', BitVec.getLsbD_or, BitVec.getLsbD_and, BitVec.getLsbD_not]
      interval_cases i <;> simp
    · simp only [mergeBits, BitVec.getLsbD_or, BitVec.getLsbD_and, BitVec.getLsbD_not, BitVec.getLsbD_shiftLeft]
      interval_cases i <;> simp
  unfold startTableBase at h
  split at h
  · cases h
  · split at h
    · rename_i hd
      cases h
      rw [hd]
      refine ⟨(top _ _).1, fun i hi => ((top _ _).2 i hi).trans ?_⟩
      split
      · rename_i hn
        have hm : fieldMask 0 6 = 0x3F#64 := by decide
        rw [hm]
        simp only [BitVec.getLsbD_and, BitVec.getLsbD_not, hn]
        interval_cases i <;> simp
      · rename_i hn
        simp [hn]
    · rename_i hd
      cases h
      have hd' : effDs s v v2 r = false := by simpa using hd
      rw [hd']
      exact ⟨(top 0 _).1, fun i hi => by rw [(top 0 _).2 i hi]; simp⟩

end Sys2Proof.Machine
end

