-- ==== Sys2Proof/Tests/Slice0.lean ====
section
/-! SUPPORT. Tests: ill-formed terms refused, words decoded, one step on small states with results taken from the
vectors of spec/95_test_vectors.md, and a state that meets the hypotheses of each statement that has some. -/

namespace Sys2Proof.Tests

open Sys2Proof.Machine

/-! ## Well-formedness and decoding -/

/-- The one check of WellFormed: register number 32 does not fit `Rt`. -/
theorem test_wellFormed_refuses_rt32 : (Instr.mrsSctlrEl2 32).wellFormed = false := by decide

/-- Register number 31 does. -/
theorem test_wellFormed_accepts_rt31 : (Instr.msrTcrEl1 31).wellFormed = true := by decide

/-- E1 to E4, E27, E30. -/
theorem test_decode_sctlr :
    decodeWord 0xD53C1000#32 = .instr (.mrsSctlrEl2 0) ∧ decodeWord 0xD51C1001#32 = .instr (.msrSctlrEl2 1) ∧
    decodeWord 0xD5381002#32 = .instr (.mrsSctlrEl1 2) ∧ decodeWord 0xD5181003#32 = .instr (.msrSctlrEl1 3) ∧
    decodeWord 0xD53C101F#32 = .instr (.mrsSctlrEl2 31) := by decide

/-- E5, E6. -/
theorem test_decode_hfgrtr2 :
    decodeWord 0xD53C3144#32 = .instr (.mrsHfgrtr2El2 4) ∧
    decodeWord 0xD51C3145#32 = .instr (.msrHfgrtr2El2 5) := by decide

/-- E7 to E10. -/
theorem test_decode_id :
    decodeWord 0xD5380507#32 = .instr (.mrsIdAa64dfr0El1 7) ∧
    decodeWord 0xD5380629#32 = .instr (.mrsIdAa64isar1El1 9) ∧
    decodeWord 0xD538064F#32 = .instr (.mrsIdAa64isar2El1 15) ∧
    decodeWord 0xD53804B1#32 = .instr (.mrsIdAa64smfr0El1 17) := by decide

/-- E11 to E16. -/
theorem test_decode_tcr2 :
    decodeWord 0xD538207E#32 = .instr (.mrsTcr2El1 30) ∧ decodeWord 0xD518207F#32 = .instr (.msrTcr2El1 31) ∧
    decodeWord 0xD53D206C#32 = .instr (.mrsTcr2El12 12) ∧ decodeWord 0xD51D2074#32 = .instr (.msrTcr2El12 20) ∧
    decodeWord 0xD53827E8#32 = .instr (.mrsTcr2aliasEl1 8) ∧
    decodeWord 0xD51827E6#32 = .instr (.msrTcr2aliasEl1 6) := by decide

/-- E17 to E22. -/
theorem test_decode_tcr :
    decodeWord 0xD538204A#32 = .instr (.mrsTcrEl1 10) ∧ decodeWord 0xD518205D#32 = .instr (.msrTcrEl1 29) ∧
    decodeWord 0xD53D2050#32 = .instr (.mrsTcrEl12 16) ∧ decodeWord 0xD51D204B#32 = .instr (.msrTcrEl12 11) ∧
    decodeWord 0xD53827CD#32 = .instr (.mrsTcraliasEl1 13) ∧
    decodeWord 0xD51827D3#32 = .instr (.msrTcraliasEl1 19) := by decide

/-- E23 to E26, E28, E29, and an IMPLEMENTATION DEFINED register (R97). -/
theorem test_decode_rejects :
    decodeWord 0xD5180500#32 = .readOnlyWrite 0xD5180500#32 ∧
    decodeWord 0xD5180620#32 = .readOnlyWrite 0xD5180620#32 ∧
    decodeWord 0xD5180640#32 = .readOnlyWrite 0xD5180640#32 ∧
    decodeWord 0xD51804A0#32 = .readOnlyWrite 0xD51804A0#32 ∧
    decodeWord 0xD53C1020#32 = .otherRegister 0xD53C1020#32 ∧ decodeWord 0xD503201F#32 = .notSysMove 0xD503201F#32 ∧
    decodeWord 0xD538B000#32 = .implementationDefined 0xD538B000#32 ∧
    decode [0x00, 0x10, 0x3C] = .truncated := by decide

/-- E1 and E22 from their fields, by the formula of section 2.1. -/
theorem test_encode :
    encode (.mrsSctlrEl2 0) = 0xD53C1000#32 ∧ encode (.msrTcraliasEl1 19) = 0xD51827D3#32 := by decide

/-! ## One step -/

/-- A configuration with these features and levels. -/
def config (features : List Feature) (el2 el3 : Bool) : Config :=
  { Config.resetConfig with
    features := features, haveEL2 := el2, haveEL3 := el3, isar2TrappedByTid3 := false, smfr0TrappedByTid3 := false }

/-- The start values of sections 2.2, 2.4, 2.6 and 2.7, at level `el` and address 0x1000, on an implementation with
these features and EL2, which is enabled. -/
def start (features : List Feature) (el3 : Bool) (el : EL) : State :=
  { State.reset with
    cfg := config features true el3
    pc := 0x1000
    pstate := ⟨el, true, false, false, false, 0⟩
    scrEl3 := { State.reset.scrEl3 with ns := true }
    sctlrEl2 := .settled 0x30C50830
    sctlrEl1 := 0x30D00800
    hfgrtr2El2 := .settled 0x1800
    tcr2El1 := .settled 2
    tcr2El2 := 8
    tcrEl1 := .settled 0x5B5103510
    tcrEl2 := 0x80803520
    nvMemBase := 0x80000000 }

/-- `s` with X`r` holding `v`. -/
def withX (s : State) (r : Nat) (v : Dword) : State := s.writeX r v

/-- NVx is `'111'`. -/
def nv7 (s : State) : State := { s with hcrEl2 := { s.hcrEl2 with nv := true, nv1 := true, nv2 := true } }

/-- NVx is `'101'`. -/
def nv5 (s : State) : State := { s with hcrEl2 := { s.hcrEl2 with nv := true, nv2 := true } }

/-- HCR_EL2.E2H is 1. -/
def e2h (s : State) : State := { s with hcrEl2 := { s.hcrEl2 with e2h := true } }

/-- The step answers a next state of which `p` holds. -/
def nextIs (o : Host.Outcome State Fault Refusal) (p : State → Bool) : Bool :=
  match o with
  | .next t => p t
  | .fault _ => false
  | .refused _ => false

/-- The step is a trap or an UNDEFINED exception to `target`, with this syndrome and return address 0x1000. -/
def entered (target : EL) (esr : Dword) (t : State) : Bool :=
  t.pstate.el == target && (t.bank target).esr == esr && (t.bank target).elr == 0x1000

/-- The step is an UNDEFINED exception to `target`. -/
def undefinedAt (target : EL) (t : State) : Bool :=
  t.pstate.el == target && (t.bank target).elr == 0x1000 &&
    t.lastException == some ⟨.undefined, target, .ec 0, none, true, false⟩

/-- V1. -/
theorem test_mrsSctlrEl2_reads :
    nextIs (exec (.mrsSctlrEl2 5) (start [.AA64] true .el2))
      (fun t => t.readX 5 == 0x30C50830 && t.pc == 0x1004) = true := by decide

/-- V6: NVx is `001`. -/
theorem test_mrsSctlrEl2_traps :
    nextIs (exec (.mrsSctlrEl2 5) { start [.AA64, .NV] true .el1 with
      hcrEl2 := ⟨false, false, false, false, true, false, false, false⟩ })
      (fun t => entered .el2 0x623104A1 t && t.readX 5 == 0) = true := by decide

/-- V10. -/
theorem test_msrSctlrEl2_masked :
    nextIs (exec (.msrSctlrEl2 1) { withX (start [.AA64, .SRMASK] true .el2) 1 0x30C50835 with
      masks := ⟨0, 1, 0, 0, 0, 0⟩ })
      (fun t => t.sctlrEl2.val == 0x30C50834 && t.sctlrEl1 == 0x30D00800 && t.pc == 0x1004) = true := by decide

/-- V13: EL3 is never masked. -/
theorem test_msrSctlrEl2_el3 :
    nextIs (exec (.msrSctlrEl2 1) { withX (start [.AA64, .SRMASK] true .el3) 1 0x30C50835 with
      masks := ⟨0, 0xFFFFFFFFFFFFFFFF, 0, 0, 0, 0⟩ })
      (fun t => t.sctlrEl2.val == 0x30C50835) = true := by decide

/-- V16, with the first value of the section; where SED, ITD and CP15BEN are fields (R22). -/
theorem test_mrsSctlrEl1_host :
    nextIs (exec (.mrsSctlrEl1 2) (e2h (start [.AA64, .VHE, .AA32EL0, .MixedEnd] true .el2)))
      (fun t => t.readX 2 == 0x30C50830) = true := by decide

/-- V17. -/
theorem test_mrsSctlrEl1_notHost :
    nextIs (exec (.mrsSctlrEl1 2) (start [.AA64, .VHE] true .el2))
      (fun t => t.readX 2 == 0x30D00800) = true := by decide

/-- V26, with SED, ITD and CP15BEN fields as for V16. -/
theorem test_msrSctlrEl1_host :
    nextIs (exec (.msrSctlrEl1 3) { withX
        (e2h (start [.AA64, .VHE, .SRMASK, .AA32EL0, .MixedEnd] true .el2)) 3 0x30C5183D with
      masks := ⟨0, 0x1000, 0, 0, 0, 0⟩ })
      (fun t => t.sctlrEl2.val == 0x30C5083D && t.sctlrEl1 == 0x30D00800) = true := by decide

/-- V32. -/
theorem test_msrSctlrEl1_nvMem :
    nextIs (exec (.msrSctlrEl1 3) { withX (nv7 (start [.AA64, .NV, .NV2, .SRMASK] true .el1)) 3 0x30C5183D with
      masks := ⟨0xFF, 0, 0, 0, 0, 0⟩ })
      (fun t => t.mem == [(0x80000110, 0x3D), (0x80000111, 0x18), (0x80000112, 0xC5), (0x80000113, 0x30)] &&
        t.sctlrEl1 == 0x30D00800) = true := by decide

/-- R75: an NVMem access may fault, as an EL2 access; nothing is stored. -/
theorem test_nvMem_faults :
    nextIs (exec (.msrSctlrEl1 3) { withX (nv7 (start [.AA64, .NV, .NV2] true .el1)) 3 1 with
      nvMemFaults := ⟨false, true⟩ })
      (fun t => t.pstate.el == .el2 && t.mem == [] && t.bankEl2.elr == 0x1000 &&
        t.lastException == some ⟨.fault, .el2, .fault .nvMemAccess, none, true, false⟩) = true := by decide

/-- V59: NVx is `101`. -/
theorem test_mrsHfgrtr2El2_nvMem :
    nextIs (exec (.mrsHfgrtr2El2 9) { nv5 (start [.AA64, .NV, .NV2, .FGT2, .SRMASK] true .el1) with
      mem := [(0x800002C0, 0xFF), (0x800002C1, 0x7F)] })
      (fun t => t.readX 9 == 0x7FFF) = true := by decide

/-- V52, with the syndrome by R501. -/
theorem test_mrsHfgrtr2El2_el3Control :
    nextIs (exec (.mrsHfgrtr2El2 9) (start [.AA64, .FGT2, .SRMASK] true .el2))
      (fun t => entered .el3 0x62350D23 t) = true := by decide

/-- V61: bits 63:15 and 2:0 are reserved. -/
theorem test_msrHfgrtr2El2_reserved :
    nextIs (exec (.msrHfgrtr2El2 0) (withX (start [.AA64, .FGT2, .SRMASK] false .el2) 0 0xFFFFFFFFFFFFFFFF))
      (fun t => t.hfgrtr2El2.val == 0x7FF8) = true := by decide

/-- V63. -/
theorem test_msrHfgrtr2El2_nvMem :
    nextIs (exec (.msrHfgrtr2El2 0) (withX (nv7 (start [.AA64, .NV, .NV2, .FGT2, .SRMASK] true .el1)) 0 0x1800))
      (fun t => t.mem == [(0x800002C1, 0x18)] && t.hfgrtr2El2.val == 0x1800) = true := by decide

/-- V71. -/
theorem test_mrsIdAa64dfr0El1_traps :
    nextIs (exec (.mrsIdAa64dfr0El1 0) { start [.AA64] true .el1 with
      hcrEl2 := ⟨false, false, false, false, false, false, false, true⟩ })
      (fun t => entered .el2 0x6230000B t) = true := by decide

/-- V79: FEAT_IDST. -/
theorem test_mrsIdAa64dfr0El1_el0 :
    nextIs (exec (.mrsIdAa64dfr0El1 0) (start [.AA64, .IDST] true .el0))
      (fun t => entered .el1 0x6230000B t) = true := by decide

/-- R288 line 5. -/
theorem test_mrsIdAa64isar1El1_reads :
    nextIs (exec (.mrsIdAa64isar1El1 1) (start [.AA64] true .el3))
      (fun t => t.readX 1 == 0x4111121101311052) = true := by decide

/-- V78 for this register. -/
theorem test_mrsIdAa64isar1El1_undefined :
    nextIs (exec (.mrsIdAa64isar1El1 1) (start [.AA64] true .el0))
      (fun t => undefinedAt .el1 t && t.readX 1 == 0) = true := by decide

/-- V83. -/
theorem test_mrsIdAa64isar2El1_traps :
    nextIs (exec (.mrsIdAa64isar2El1 4) { start [.AA64, .FGT] true .el1 with
      cfg := { config [.AA64, .FGT] true true with idAa64isar2 := 0 }
      hcrEl2 := ⟨false, false, false, false, false, false, false, true⟩ })
      (fun t => entered .el2 0x6234008D t) = true := by decide

/-- V82. -/
theorem test_mrsIdAa64isar2El1_notTrapped :
    nextIs (exec (.mrsIdAa64isar2El1 4) { withX (start [.AA64] true .el1) 4 1 with
      cfg := { config [.AA64] true true with idAa64isar2 := 0 }
      hcrEl2 := ⟨false, false, false, false, false, false, false, true⟩ })
      (fun t => t.readX 4 == 0 && t.pc == 0x1004) = true := by decide

/-- V88. -/
theorem test_mrsIdAa64smfr0El1_reads :
    nextIs (exec (.mrsIdAa64smfr0El1 7) { start [.SME, .SME2] true .el3 with
      cfg := { config [.SME, .SME2] true true with idAa64smfr0 := 0x010050FF00000000 } })
      (fun t => t.readX 7 == 0x010050FF00000000) = true := by decide

/-- V86. -/
theorem test_mrsIdAa64smfr0El1_notTrapped :
    nextIs (exec (.mrsIdAa64smfr0El1 7) { withX (start [.AA64] true .el1) 7 1 with
      cfg := { config [.AA64] true true with idAa64smfr0 := 0 }
      hcrEl2 := ⟨false, false, false, false, false, false, false, true⟩ })
      (fun t => t.readX 7 == 0) = true := by decide

/-- V110. -/
theorem test_mrsTcr2El1_nvMem :
    nextIs (exec (.mrsTcr2El1 0) { nv7 (start [.AA64, .TCR2, .S1PIE, .HCX, .NV, .NV2] true .el1) with
      mem := [(0x80000270, 0x10)]
      hcrxEl2 := ⟨true, false, false, false⟩
      scrEl3 := ⟨true, false, false, false, false, true, false, true⟩ })
      (fun t => t.readX 0 == 0x10) = true := by decide

/-- V107, with the syndrome by R501. -/
theorem test_mrsTcr2El1_el3Control :
    nextIs (exec (.mrsTcr2El1 0) { start [.AA64, .TCR2, .S1PIE, .HCX] true .el1 with
      scrEl3 := ⟨false, false, false, false, false, false, false, false⟩ })
      (fun t => entered .el3 0x62360801 t) = true := by decide

/-- V116. -/
theorem test_msrTcr2El1_masked :
    nextIs (exec (.msrTcr2El1 1) {
      withX (start [.AA64, .TCR2, .S1PIE, .HCX, .SRMASK, .S1POE, .AIE, .D128] true .el1) 1 0x3A with
      masks := ⟨0, 0, 0, 0, 0x22, 0⟩
      hcrxEl2 := ⟨true, false, false, false⟩
      scrEl3 := ⟨true, false, false, false, false, true, false, true⟩ })
      (fun t => t.tcr2El1.val == 0x1A) = true := by decide

/-- V118. -/
theorem test_msrTcr2El1_host :
    nextIs (exec (.msrTcr2El1 1) { withX (e2h (start [.AA64, .TCR2, .S1PIE, .HCX, .SRMASK, .VHE] false .el2)) 1 0xC with
      masks := ⟨0, 0, 0, 0, 0, 4⟩ })
      (fun t => t.tcr2El2 == 8 && t.tcr2El1.val == 2) = true := by decide

/-- V128: NVx is `111`. -/
theorem test_mrsTcr2El12_traps :
    nextIs (exec (.mrsTcr2El12 2) (nv7 (start [.AA64, .TCR2, .S1PIE, .HCX, .NV, .NV2, .VHE] true .el1)))
      (fun t => entered .el2 0x62374841 t) = true := by decide

/-- V123. -/
theorem test_mrsTcr2El12_host :
    nextIs (exec (.mrsTcr2El12 2) (e2h (start [.AA64, .TCR2, .S1PIE, .HCX, .VHE] false .el2)))
      (fun t => t.readX 2 == 2) = true := by decide

/-- V131. -/
theorem test_msrTcr2El12_unmasked :
    nextIs (exec (.msrTcr2El12 3) { withX (e2h (start [.AA64, .TCR2, .THE, .SRMASK, .VHE] false .el2)) 3 1 with
      masks := ⟨0, 0, 0, 0, 0xFFFFFFFFFFFFFFFF, 0⟩ })
      (fun t => t.tcr2El1.val == 1 && t.tcr2El2 == 8) = true := by decide

/-- V124 for the write. -/
theorem test_msrTcr2El12_notHost :
    nextIs (exec (.msrTcr2El12 3) (start [.AA64, .TCR2, .S1PIE, .HCX, .VHE] false .el2))
      (fun t => undefinedAt .el2 t && t.tcr2El1.val == 2) = true := by decide

/-- V133. -/
theorem test_mrsTcr2aliasEl1_bit12 :
    nextIs (exec (.mrsTcr2aliasEl1 0) { start [.AA64, .TCR2, .S1PIE, .HCX, .SRMASK, .FGT2] false .el1 with
      hfgrtr2El2 := .settled 0x1000
      hcrxEl2 := ⟨true, false, false, false⟩ })
      (fun t => t.readX 0 == 2) = true := by decide

/-- V134, with the syndrome by R501. -/
theorem test_mrsTcr2aliasEl1_bit11 :
    nextIs (exec (.mrsTcr2aliasEl1 0) { start [.AA64, .TCR2, .S1PIE, .HCX, .SRMASK, .FGT2] false .el1 with
      hfgrtr2El2 := .settled 0x800
      hcrxEl2 := ⟨true, false, false, false⟩ })
      (fun t => entered .el2 0x623E080F t) = true := by decide

/-- V138. -/
theorem test_msrTcr2aliasEl1_el3 :
    nextIs (exec (.msrTcr2aliasEl1 5) (withX (start [.AA64, .TCR2, .SRMASK, .D128] true .el3) 5 0x20))
      (fun t => t.tcr2El1.val == 0x20) = true := by decide

/-- V137 for the write: no FEAT_SRMASK. -/
theorem test_msrTcr2aliasEl1_absent :
    nextIs (exec (.msrTcr2aliasEl1 5) (withX (start [.AA64, .TCR2, .D128] true .el3) 5 0x20))
      (fun t => undefinedAt .el3 t && t.tcr2El1.val == 2) = true := by decide

/-- V154. -/
theorem test_mrsTcrEl1_nvMem :
    nextIs (exec (.mrsTcrEl1 0) { nv7 (start [.AA64, .NV, .NV2] true .el1) with mem := [(0x80000120, 0x19)] })
      (fun t => t.readX 0 == 0x19) = true := by decide

/-- V155. -/
theorem test_mrsTcrEl1_host :
    nextIs (exec (.mrsTcrEl1 0) (e2h (start [.AA64, .VHE] true .el2)))
      (fun t => t.readX 0 == 0x80803520) = true := by decide

/-- V157. -/
theorem test_msrTcrEl1_masked :
    nextIs (exec (.msrTcrEl1 1) { withX (start [.AA64, .SRMASK] true .el1) 1 0x5B5103510 with
      tcrEl1 := .settled 0x19
      masks := ⟨0, 0, 0x3F, 0, 0, 0⟩ })
      (fun t => t.tcrEl1.val == 0x5B5103519) = true := by decide

/-- V181. -/
theorem test_msrTcrEl1_bigEndian :
    nextIs (exec (.msrTcrEl1 0) { withX (nv7 (start [.AA64, .NV, .NV2, .MixedEnd] true .el1)) 0 0x5B5103510 with
      sctlrEl2 := .settled 0x32C50830 })
      (fun t => t.mem == [(0x80000123, 0x05), (0x80000124, 0xB5), (0x80000125, 0x10), (0x80000126, 0x35),
        (0x80000127, 0x10)] && t.tcrEl1.val == 0x5B5103510) = true := by decide

/-- V165: NVx is `101`. -/
theorem test_mrsTcrEl12_nvMem :
    nextIs (exec (.mrsTcrEl12 2) { nv5 (start [.AA64, .NV, .NV2, .VHE] true .el1) with mem := [(0x80000120, 0x19)] })
      (fun t => t.readX 2 == 0x19) = true := by decide

/-- P3, its last instruction: NVx is `111`. -/
theorem test_mrsTcrEl12_traps :
    nextIs (exec (.mrsTcrEl12 4) (nv7 (start [.AA64, .NV, .NV2, .VHE] true .el1)))
      (fun t => entered .el2 0x62354881 t) = true := by decide

/-- V169. -/
theorem test_msrTcrEl12_unmasked :
    nextIs (exec (.msrTcrEl12 3) { withX (e2h (start [.AA64, .VHE, .SRMASK] true .el3)) 3 0x19 with
      masks := ⟨0, 0, 0xFFFFFFFFFFFFFFFF, 0xFFFFFFFFFFFFFFFF, 0, 0⟩ })
      (fun t => t.tcrEl1.val == 0x19) = true := by decide

/-- V168. -/
theorem test_msrTcrEl12_notHost :
    nextIs (exec (.msrTcrEl12 3) (withX (start [.AA64, .VHE] true .el2) 3 0x19))
      (fun t => undefinedAt .el2 t && t.tcrEl1.val == 0x5B5103510) = true := by decide

/-- V172: the bit of HFGRTR_EL2 does not apply to this name. -/
theorem test_mrsTcraliasEl1_otherTrapBit :
    nextIs (exec (.mrsTcraliasEl1 0) { start [.AA64, .SRMASK, .FGT2, .FGT] false .el1 with
      hfgrtr2El2 := .settled 0x800
      fgt := ⟨false, false, true, false, false, false⟩ })
      (fun t => t.readX 0 == 0x5B5103510) = true := by decide

/-- V171, with the syndrome by R501. -/
theorem test_mrsTcraliasEl1_bit12Only :
    nextIs (exec (.mrsTcraliasEl1 0) { start [.AA64, .SRMASK, .FGT2] false .el1 with hfgrtr2El2 := .settled 0x1000 })
      (fun t => entered .el2 0x623C080F t) = true := by decide

/-- V174. -/
theorem test_msrTcraliasEl1_traps :
    nextIs (exec (.msrTcraliasEl1 4) (start [.AA64, .SRMASK, .FGT2] false .el1))
      (fun t => entered .el2 0x623C088E t) = true := by decide

/-- V173. -/
theorem test_msrTcraliasEl1_el3 :
    nextIs (exec (.msrTcraliasEl1 4) (withX (start [.AA64, .SRMASK] true .el3) 4 0x10))
      (fun t => t.tcrEl1.val == 0x10) = true := by decide

/-! ## Fields and the configuration -/

/-- V203: the delay with TWEDEn 1 and TWEDEL 0 and 15, in a host. -/
theorem test_trapDelay :
    trapDelay (e2h (start [.VHE, .TWED] true .el2)) 0x0000200000000000 .wfe = 256 ∧
    trapDelay (e2h (start [.VHE, .TWED] true .el2)) 0x0003E00000000000 .wfe = 8388608 := by decide

/-- V205: the sizes and granules of TCR_EL1. -/
theorem test_tcr_fields :
    tsz (start [] false .el1) 0x5B5103510 0 .ttbr0 = 16 ∧
    granuleOf (config [] true true) 0x5B5103510 .ttbr0 = .g4K ∧
    granuleOf (config [] true true) 0x5B5103510 .ttbr1 = .g4K ∧
    outputAddressBits (start [] false .el1) 0x5B5103510 0 .ttbr0 = 48 ∧
    regionSize (start [] false .el1) 0x190000 0 .ttbr1 = 2 ^ 39 := by decide

/-- V208, V209, V210. -/
theorem test_topByte :
    tbiTarget (start [] false .el1) 0x2000000000 0 0xAB00000000401000 = 0x401000 ∧
    tbiTarget (start [] false .el1) 0x4000000000 0 0x12FFFFFFFFFF0000 = 0xFFFFFFFFFFFF0000 ∧
    tbiTarget (start [] false .el1) 0 0 0xAB00000000401000 = 0xAB00000000401000 := by decide

/-- V161, V162: the constant bits of TCR_EL1 with no optional feature. -/
theorem test_tcr_constants :
    (tcrConstants (config [] true true)).apply 0xFFFFFFFFFFFFFFFF = 0x77FFFFFFBF ∧
    (tcrConstants { config [] true true with asid16 := false }).apply 0xFFFFFFFFFFFFFFFF = 0x67FFFFFFBF := by decide

/-- V121, and the reset value of SCTLR_EL2 keeps the ones of an implementation without FEAT_ExS (V243). -/
theorem test_constants :
    (tcr2Constants (config [.TCR2, .S1PIE] true true)).apply 0xFFFFFFFFFFFFFFFF = 2 ∧
    (sctlrConstants (config [] true true)).apply 0 = 0x30C50830 := by decide

/-- R190(a), R560: after MSR SCTLR_EL1 of 4 and MSR SCTLR_EL2 of 5, a read by the second name finds one of the two. -/
theorem test_ownWriteIsSeen :
    let r : CtlReg := ⟨1, [.wrote .second 4 0], [], []⟩
    (∀ k ∈ r.places (.wrote .first 5 0), ∀ j ≤ 2,
      let tail := placeAt k (.wrote .first 5 0) r.tail
      ownEnd .first tail ≤ j → replay r.base (tail.take j) = 4 ∨ replay r.base (tail.take j) = 5) ∧
    r.places (.wrote .first 5 0) = [0, 1] := by decide

/-- R560: a read that found the old value keeps a later write by its own name after it, and a write by the other name
may still come before or after. -/
theorem test_readKeepsOrder :
    let r : CtlReg := ⟨1, [.wrote .second 4 0, .read .first 4], [], []⟩
    r.places (.wrote .first 5 0) = [2] ∧ r.places (.wrote .second 6 0) = [2] := by decide

/-- D3, R22: SED without AArch32 at EL0 reads as 0 outside a host and as 1 in one, and holds nothing. -/
theorem test_reservedByContext :
    (start [.AA64, .VHE] true .el2).sctlrReadBack 0xFFFFFFFFFFFFFFFF &&& 0x100 = 0 ∧
    (e2h (start [.AA64, .VHE] true .el2)).sctlrReadBack 0 &&& 0x100 = 0x100 := by decide

/-- R357(a): without FEAT_SME the register reads as 0, whatever is configured. -/
theorem test_smfr0_withoutSme :
    ({ start [.AA64] true .el3 with
        cfg := { config [.AA64] true true with idAa64smfr0 := 0xFF } } : State).readReg .idAa64smfr0 = 0 := by decide

/-- R72, R563: EPD0 that was 1 leaves nothing in a TLB, EPD0 that was 0 does; A1 never does. -/
theorem test_cachedFields :
    tcrCacheable .epd0 1 = false ∧ tcrCacheable .epd0 0 = true ∧ tcrCacheable .a1 0 = false := by decide

/-- R29: the SP of the current level by PSTATE.SP. -/
theorem test_sp :
    ({ start [] true .el2 with spEl0 := 3, spEl2 := 7 } : State).sp = 7 ∧
    ({ start [] true .el2 with
        spEl0 := 3, spEl2 := 7, pstate := ⟨.el2, false, false, false, false, 0⟩ } : State).sp = 3 := by decide

/-- V250, V251, V252 and V256 (TGE 0): the EL0 traps of the 64-byte stores. -/
theorem test_el0_traps :
    el0Control { start [.VHE, .LS64] true .el0 with
      hcrEl2 := ⟨true, true, false, false, false, false, false, false⟩ } 0 .ld64bSt64b =
        .trapToEl2 0x0A (some 2) ∧
    el0Control (e2h (start [.VHE, .LS64] true .el0)) 0 .ld64bSt64b = .proceed := by decide

/-- The configuration of `State.reset` obeys every rule of files 44 to 47 on the ID constants (D17). -/
theorem test_resetConfig_legal : idConstantsLegal Config.resetConfig = true := by decide

/-- R251, R255: 16 context-aware breakpoints of 16 are legal, 20 of 16 are not. -/
theorem test_contextAware_bounded :
    let c := fun n => { Config.resetConfig with
      idAa64dfr0 := 0xF000F000, cross := { Config.resetConfig.cross with dfr1CtxCmps := n, dfr1Brps := none } }
    debugCountsLegal (c none) = true ∧ debugCountsLegal (c (some 20)) = false := by decide

/-- R275: a DGH without effect makes FEAT_DGH's value illegal.  R450, R457: an unimplemented fallback is illegal.
R227: a RES0 nERXGSR_EL1 needs ERRIDR_EL1.NUM 0 and no ERX* register. -/
theorem test_parameters_legal :
    let c := Config.resetConfig
    isar1Legal { c with cross := { c.cross with dghNoEffect := true } } = false ∧
    granulesLegal c = true ∧ granulesLegal { c with granules := [.g16K] } = false ∧
    State.erxgsrRes0Permitted { State.reset with cfg := { c with nerxgsrRes0 := true } } = false := by decide

/-- R425, by hand from the rule: output address [51:48] of a descriptor, the use of bits [9:8] of a table, and the
base of a table of 4 entries, with DS 1 (4KB granule) and with DS 0. -/
theorem test_ds :
    let s := { start [.LPA2] true .el1 with
      controlled := { State.reset.controlled with ttbr0El1 := 0x0000000012345674 } }
    let ds : Dword := 0x0800000000000000
    let d : Dword := 0x0001000012345303
    descriptorOutputTop s ds 0 .ttbr0 d = some 13 ∧ descriptorOutputTop s 0 0 .ttbr0 d = some 0 ∧
    descriptorBits9To8 s 0 0 .ttbr0 .table d = some .ignored ∧
    descriptorBits9To8 s 0 0 .ttbr0 .page d = some (.shareability 3) ∧
    descriptorBits9To8 s ds 0 .ttbr0 .table d = some (.outputAddress 3) ∧
    startTableBase s ds 0 .ttbr0 4 0x12345674 = some 0x000D000012345640 ∧
    startTableBase s 0 0 .ttbr0 4 0x12345674 = some 0x12345674 ∧
    descriptorOutputTop s (ds ||| 0x4000) 0 .ttbr0 d = none := by decide

/-- P2, first instruction, as the first step after reset. -/
theorem test_step_from_reset :
    nextIs (step ((withX State.reset 0 0x30C50830).withFetchWord 32 0xD51C1000))
      (fun t => t.sctlrEl2.val == 0x30C50830 && t.pc == 4) = true := by decide

/-- 00_scope.md section 6: `ELIsInHost(EL2)` is false when EL2 is using AArch32, and an EL12 name at EL3 with E2H 1 is
then UNDEFINED (R481). -/
theorem test_elIsInHost_aarch32 :
    (e2h (start [.AA64, .VHE] true .el3)).host2 = true ∧
    nextIs (exec (.mrsTcrEl12 2) { e2h (start [.AA64, .VHE] true .el3) with el2Aarch32 := true })
      (fun t => undefinedAt .el3 t && t.readX 2 == 0) = true := by decide

/-! ## States that meet the hypotheses of the statements -/

/-- At level `el`, nothing in flight, every feature of the reset configuration, FGTEn2 and TCR2En set. -/
def full (el : EL) : State :=
  { State.reset with
    pstate := ⟨el, true, false, false, false, 0⟩
    mem := [(0x120, 7)]
    scrEl3 := ⟨true, false, false, false, true, true, false, true⟩ }

/-- `full el` with EL2 in host and HCR_EL2.TGE `tge`. -/
def host (el : EL) (tge : Bool) : State :=
  { full el with hcrEl2 := ⟨true, tge, false, false, false, false, false, false⟩ }

/-- `full el` on an implementation without EL3. -/
def noEl3 (el : EL) : State := { full el with cfg := { Config.resetConfig with haveEL3 := false } }

/-- DecodeOfEncode, MatchWords and TrapSyndromeFields, at the largest register number. -/
theorem witness_wellFormed :
    (Instr.msrTcraliasEl1 31).WellFormed ∧ (Instr.mrsSctlrEl2 0).WellFormed ∧ (31 : Nat) < 32 := by decide

/-- EncodeOfDecode. -/
theorem witness_encodeOfDecode : decodeWord 0xD53827FF#32 = .instr (.mrsTcr2aliasEl1 31) := by decide

/-- ReadOnlyIdWriteUndefined. -/
theorem witness_readOnlyIdWrite :
    0xD51804BF#32 &&& 0xFFFFFFE0#32 ∈ [0xD5180500#32, 0xD5180620#32, 0xD5180640#32, 0xD51804A0#32] := by decide

/-- OutsideTheSpecRefused, first clause, and second clause with `op0` 2. -/
theorem witness_outside_class :
    0xD503201F#32 &&& 0xFFD00000#32 ≠ 0xD5100000#32 ∧ 0xD5300000#32 &&& 0xFFD00000#32 = 0xD5100000#32 ∧
    (0xD5300000#32).getLsbD 19 = false := by decide

/-- OutsideTheSpecRefused, second clause, with a coordinate outside the 13 (E28). -/
theorem witness_outside_coordinate :
    (∀ i : Instr, i.coordinate ≠ wordCoordinate 0xD53C1020#32) ∧
    (0xD53C1020#32).extractLsb' 12 4 ≠ 11#4 ∧ (0xD53C1020#32).extractLsb' 12 4 ≠ 15#4 :=
  ⟨fun i => by cases i <;> simp only [Instr.coordinate] <;> decide, by decide, by decide⟩

/-- ImplementationDefinedAccess: the word, and a state in which it is trapped. -/
theorem witness_implementationDefined :
    0xD538B000#32 &&& 0xFFD00000#32 = 0xD5100000#32 ∧ (0xD538B000#32).getLsbD 19 = true ∧
    (0xD538B000#32).extractLsb' 12 4 = 11#4 ∧ (0xD538F000#32).extractLsb' 12 4 = 15#4 ∧
    (host .el0 true).sctlrEl2.unsynced = [] ∧
    ((host .el0 true).has .TIDCP1 && (host .el0 true).host2 && (host .el0 true).hcrEl2.tge) = true := by decide

/-- The trap itself, with SCTLR_EL2.TIDCP 1. -/
theorem witness_implementationDefined_trap :
    nextIs (execImplementationDefined 0xD538B000#32
        { host .el0 true with sctlrEl2 := .settled 0x8000000000000000 })
      (fun t => t.pstate.el == .el2) = true := by decide

/-- StepRunsDecodedInstruction. -/
theorem witness_stepRunsDecoded :
    (State.reset.withFetchWord 32 0xD53C1000).pc.extractLsb' 0 2 = 0 ∧
    (State.reset.withFetchWord 32 0xD53C1000).staleFetch = [] ∧
    decode (State.reset.withFetchWord 32 0xD53C1000).fetchBytes = .instr (.mrsSctlrEl2 0) := by decide

/-- StepRunsPlacedWord, and the memory hypothesis of every MSR statement. -/
theorem witness_memory : (full .el1).mem.wf = true ∧ (full .el1).pc.extractLsb' 0 2 = 0 := by decide

/-- MisalignedPcFaults. -/
theorem witness_misaligned : ({ State.reset with pc := 2 } : State).pc.extractLsb' 0 2 ≠ 0 := by decide

/-- NvMemByteOrder and NvMemWriteThenRead. -/
theorem witness_nvMem :
    (nv7 (full .el1)).mem.wf = true ∧ (nv7 (full .el1)).sctlrEl2.unsynced = [] ∧
    (nv7 (full .el1)).sctlrEl2.stale = [] ∧ (nv7 (full .el1)).has .AA64 = true ∧
    (nv7 (full .el1)).pstate.el = .el1 ∧ (nv7 (full .el1)).nvx = 7 ∧ (nv7 (full .el1)).hcrEl2.tvm = false ∧
    (nv7 (full .el1)).nvMemFaults = ⟨false, false⟩ ∧
    (nv7 (full .el1)).hcrEl2.trvm = false ∧ (nv7 (full .el1)).fgt.rTcrEl1 = false ∧
    (nv7 (full .el1)).fgt.wTcrEl1 = false := by decide

/-- EntryToEl2, EntryToEl1TopByte. -/
theorem witness_entry :
    (full .el1).el2Enabled = true ∧ (full .el1).sctlrEl2.unsynced = [] ∧ (full .el1).dbgState.halted = false ∧
    (full .el1).tcrEl1.unsynced = [] ∧ (full .el1).tcrEl1.stale = [] := by decide

/-- ReturnFromException: a return to EL2 from EL2 and from EL3, with PSTATE.SP 1; the record of each. -/
theorem witness_return :
    (full .el2).el2Enabled = true ∧ (full .el2).dbgState.halted = false ∧ (full .el2).cfg.haveEL .el2 = true ∧
    (full .el2).returnRefused .el2 = false ∧
    nextIs ({ full .el2 with bankEl2 := ⟨0, 9, 0x4000, 0⟩, sctlrEl2 := .settled 0x200000 } : State).exceptionReturn
      (fun t => t.pc == 0x4000 && t.pstate.sp && t.lastReturn == some ⟨.el2, .el2, false, true⟩) = true ∧
    nextIs ({ full .el3 with bankEl3 := ⟨0, 9, 0x4000, 0⟩, sctlrEl2 := .settled 0x200000 } : State).exceptionReturn
      (fun t => t.pc == 0x4000 && t.pstate.sp && t.lastReturn == some ⟨.el3, .el2, true, false⟩) = true := by decide

/-- ReturnFromException: a return from EL1 with TBI0 1 (R447, R513), and one from EL1 to EL2 and one at EL0,
refused, as is one
from EL3 to an EL2 that is using AArch32. -/
theorem witness_return_el1 :
    nextIs ({ full .el1 with
        bankEl1 := ⟨0, 0, 0xAB00000000401000, 0⟩, tcrEl1 := .settled 0x2000000000 } : State).exceptionReturn
      (fun t => t.pc == 0x401000 && t.lastReturn == some ⟨.el1, .el0, true, false⟩) = true ∧
    (full .el1).returnRefused .el2 = true ∧ (full .el0).returnRefused .el0 = true ∧
    ({ full .el3 with el2Aarch32 := true } : State).returnRefused .el2 = true := by decide

/-- ReturnFromException: returns to EL1 and to EL0 with TBI0 1 and a tagged address (R447, R513), and to EL0 in a
host, where the address is stored as it is. -/
theorem witness_return_lower :
    nextIs ({ full .el2 with
        bankEl2 := ⟨0, 5, 0xAB00000000401000, 0⟩, tcrEl1 := .settled 0x2000000000 } : State).exceptionReturn
      (fun t => t.pc == 0x401000 && t.pstate.el == .el1) = true ∧
    nextIs ({ full .el2 with
        bankEl2 := ⟨0, 0, 0xAB00000000401000, 0⟩, tcrEl1 := .settled 0x2000000000 } : State).exceptionReturn
      (fun t => t.pc == 0x401000 && t.pstate.el == .el0) = true ∧
    nextIs ({ host .el2 true with
        bankEl2 := ⟨0, 0, 0xAB00000000401000, 0⟩, tcrEl1 := .settled 0x2000000000 } : State).exceptionReturn
      (fun t => t.pc == 0xAB00000000401000 && t.pstate.el == .el0) = true := by decide

/-- LevelRisesByExceptionOnly, LowerLevelsLeaveEl2Registers and El0ReachesNoRegister: MRS of SCTLR_EL2 at EL0. -/
theorem witness_step_el0 :
    nextIs (step ((full .el0).withFetchWord 32 0xD53C1000)) (fun t => t.pstate.el != .el0) = true := by decide

/-- LowerLevelsLeaveEl2Registers at EL1, StepKeepsConfigurationAndInputs: MSR of TCR_EL1. -/
theorem witness_step_el1 :
    nextIs (step ((full .el1).withFetchWord 32 0xD5182041)) (fun t => t.pc == 4) = true := by decide

/-- StepKeepsInvariant: a state with the invariant whose step answers a next state. -/
theorem witness_invariant :
    ((full .el3).withFetchWord 32 0xD51C1000).Inv ∧
    nextIs (step ((full .el3).withFetchWord 32 0xD51C1000)) (fun t => t.pc == 4) = true := by decide

/-- WarmResetSctlrEl2 and WarmResetOtherRegisters. -/
theorem witness_warmReset :
    (noEl3 .el2).cfg.highestEL = .el2 ∧ (noEl3 .el2).has .SSBS = true ∧
    ({ Config.resetConfig with haveEL3 := false, haveEL2 := false } : Config).highestEL = .el1 := by decide

/-- SctlrRes1Masks: V200 and V201. -/
theorem witness_res1Masks :
    (config [] true true).has .BigEnd = false ∧ (config [.ExS] true true).has .BigEndEL0 = false := by decide

/-- Tcr2EffectiveValues: TCR2_EL1 ignored, and not ignored with D128 1 and 0. -/
theorem witness_tcr2Values :
    ((full .el1).el2Enabled && !((full .el1).hcrxEnabled && (full .el1).hcrxEl2.tcr2en)) = true ∧
    ({ full .el1 with hcrxEl2 := ⟨true, false, false, false⟩ } : State).tcr2Ignored = false ∧
    (full .el1).has .D128 = true ∧ (0x20 : Dword).getLsbD 5 = true ∧ (0x1F : Dword).getLsbD 5 = false := by decide

/-- SctlrEffectiveValues: its three premises. -/
theorem witness_sctlrValues :
    (full .el2).dbgState.halted = false ∧ State.reset.el2Enabled = false := by decide

/-- SixteenByteRule: an access that crosses with nAA 0, at EL2 and at EL0 in a host; one that does not; one with nAA
1; LDIAPP of two registers of 8 bytes whose second crosses, and of two that together span 32 bytes without crossing.
-/
theorem witness_sixteen :
    let check := fun s v o a n => alignment16Fault s v o a n false 0
    (full .el2).has .LSE2 = true ∧ (full .el2).el2Enabled = true ∧
    OrderedAccess.lrcpc3Pair.listed (full .el2).cfg = true ∧
    check (full .el2) 0 .base 0x100C 8 = some .alignment16Byte ∧
    check (host .el0 true) 0 .base 0x100C 8 = some .alignment16Byte ∧
    check (full .el2) 0 .base 0x1008 8 = none ∧ check (full .el2) 0x40 .base 0x100C 8 = none ∧
    check (full .el2) 0 .lrcpc3Pair 0x1004 8 = some .alignment16Byte ∧
    check (full .el2) 0 .lrcpc3Pair 0x1008 8 = none := by decide

/-- Fgt2Traps: a field of an implemented feature with value 0 traps at EL1, and loses to a higher priority
exception. -/
theorem witness_fgt2 :
    fgt2TrapCode (full .el1) 0 .rcwsmask .mrs false = some 0x18 ∧
    fgt2TrapCode (full .el1) 0 .rcwsmask .mrrs false = some 0x14 ∧
    fgt2TrapCode (full .el1) 0 .rcwsmask .mrs true = none := by decide

/-- El0ControlsNeedHost (each alternative) and El0TrapCodes. -/
theorem witness_el0Controls :
    (full .el1).pstate.el ≠ .el0 ∧ (full .el0).host2 = false ∧ (host .el0 false).hcrEl2.tge = false ∧
    (host .el0 true).pstate.el = .el0 ∧ (host .el0 true).host2 = true ∧
    (host .el0 true).hcrEl2.tge = true := by decide

/-- El0TrapCodes: the FPMR read, an AArch32 MCR of the TIDCP sets, and DC CVAP with and without UCI. -/
theorem witness_el0TrapCodes :
    let s := host .el0 true
    el0Control s 0 (.fpmrDirect false) = .trapToEl2 0x18 none ∧
    el0Control s 0x8000000000000000 (.implementationDefined (.mcrMrc 15 11 15)) = .trapToEl2 0x03 none ∧
    el0Control s 0 (.cacheMaintenance .dcCvap) = .trapToEl2 0x18 none ∧
    el0Control s 0x04000000 (.cacheMaintenance .dcCvap) = .proceed ∧
    el0Control s 0 .ctrAccess = .trapToEl2 s.cfg.trapCodes.uct none := by decide

/-- WaitTrapDelay: WFE at the least delay (TWEDEn 1, TWEDEL 0, 256 cycles), before it, and past it when the trap is
put off; WFI, which has no delay, with nTWI 0 and with nTWI 1; and an instruction that completes. -/
theorem witness_waitTrap :
    let s := fun n => { host .el0 true with wfeCycles := n }
    let v : Dword := 0x0000200000000000
    waitOutcome (s 256) v .wfe true false false = .trapToEl2 0x01 ∧
    waitOutcome (s 255) v .wfe true false false = .waiting ∧
    waitOutcome (s 256) v .wfe true false true = .waiting ∧
    waitOutcome (s 0) v .wfi true false true = .trapToEl2 0x01 ∧
    waitOutcome (s 0) (v ||| 0x10000) .wfi true false false = .waiting ∧
    waitOutcome (s 256) v .wfe true true false = .complete := by decide

/-- WritesReadBack and WriteTakesEffect. -/
theorem witness_writes :
    (full .el3).has .AA64 = true ∧ (full .el3).pstate.el = .el3 ∧
    (full .el3).cfg.haveEL2 = true ∧ (full .el3).sctlrEl2.quiet = true ∧ (full .el3).has .FGT2 = true ∧
    (full .el3).has .TCR2 = true ∧ (full .el3).tcr2El1.quiet = true ∧ (full .el3).tcrEl1.quiet = true ∧
    nextIs (exec (.msrSctlrEl2 0) (full .el3)) (fun t => t.pc == 4) = true := by decide

/-- OtherNameReadsOldOrNew: its clauses at EL2, with and without the write mask of FEAT_SRMASK, and at EL3, in host.
-/
theorem witness_otherName :
    let plain := e2h (start [.AA64, .VHE] true .el2)
    let s := host .el3 false
    (plain.has .AA64 = true ∧ plain.has .SRMASK = false ∧ plain.pstate.el = .el2 ∧ plain.host2 = true ∧
      plain.sctlrEl2.tail = []) ∧
    ((host .el2 false).has .SRMASK = true ∧ (host .el2 false).host2 = true ∧ (host .el2 false).sctlrEl2.tail = []) ∧
    s.host2 = true ∧ s.pstate.el = .el3 ∧ s.has .TCR2 = true ∧ s.has .AA64 = true ∧ s.tcrEl1.tail = [] ∧
    s.tcr2El1.tail = [] := by decide

end Sys2Proof.Tests
end

section
/-! SUPPORT. What one step can do, once: which exceptions the checks of an accessor can end in, and the five shapes of
the next state. -/

namespace Sys2Proof.Machine

/-! ## Where an exception can go -/

/-- The level is not EL0, and where the current level is implemented and can run A64 instructions (log entry 63), so
is it. -/
def State.CanTake (s : State) (target : EL) : Prop :=
  target ≠ .el0 ∧
    (s.cfg.haveEL s.pstate.el = true → s.runsA64At s.pstate.el = true →
      s.cfg.haveEL target = true ∧ s.runsA64At target = true)

theorem State.haveEL2_of_el2Enabled {s : State} (h : s.el2Enabled = true) : s.cfg.haveEL2 = true :=
  Bool.and_elim_left h

/-- From EL0 and EL1: code runs there in A64 with EL2 enabled only where EL2 is using AArch64. -/
theorem State.canTake_el2 {s : State} (he : s.el2Enabled = true) (hl : s.pstate.el = .el0 ∨ s.pstate.el = .el1) :
    s.CanTake .el2 := by
  refine ⟨nofun, fun _ hrun => ⟨State.haveEL2_of_el2Enabled he, ?_⟩⟩
  rcases hl with hl | hl <;> simpa [State.runsA64At, hl, he] using hrun

theorem State.canTake_el3 {s : State} (h : s.cfg.haveEL3 = true) : s.CanTake .el3 :=
  ⟨nofun, fun _ _ => ⟨h, by simp [State.runsA64At]⟩⟩

/-- EL0 and EL1 are in the same place with respect to EL2. -/
theorem State.canTake_el1_of_el0 {s : State} (hl : s.pstate.el = .el0) : s.CanTake .el1 :=
  ⟨nofun, fun _ hrun => ⟨rfl, by simpa [State.runsA64At, hl] using hrun⟩⟩

/-- R502: the level an UNDEFINED instruction is taken to. -/
theorem State.canTake_undefinedTarget (s : State) : s.CanTake s.undefinedTarget := by
  have here : s.pstate.el ≠ .el0 → s.CanTake s.pstate.el := fun h => ⟨h, fun hhave hrun => ⟨hhave, hrun⟩⟩
  cases hl : s.pstate.el with
  | el0 =>
    simp only [State.undefinedTarget, hl]
    split
    · rename_i h
      exact State.canTake_el2 (Bool.and_elim_left h) (.inl hl)
    · exact State.canTake_el1_of_el0 hl
  | el1 => simpa only [State.undefinedTarget, hl] using here (by simp [hl])
  | el2 => simpa only [State.undefinedTarget, hl] using here (by simp [hl])
  | el3 => simpa only [State.undefinedTarget, hl] using here (by simp [hl])

/-! ## Nested virtualization and hosts need EL2 -/

/-- `EffectiveHCR_EL2_NVx()` is `'000'` while EL2 is not enabled. -/
theorem State.el2Enabled_of_nvx {s : State} (h : s.nvx ≠ 0) : s.el2Enabled = true := by
  cases he : s.el2Enabled
  · exact absurd (by simp [State.nvx, State.nestedVirt, he]) h
  · rfl

theorem State.el2Enabled_of_nvTraps {s : State} (h : s.nvTraps = true) : s.el2Enabled = true :=
  State.el2Enabled_of_nvx fun h0 => by simp [State.nvTraps, h0] at h

theorem State.el2Enabled_of_nv2Active {s : State} (h : s.nv2Active = true) : s.el2Enabled = true :=
  State.el2Enabled_of_nvTraps (Bool.and_elim_left h)

theorem State.el2Enabled_of_host2 {s : State} (h : s.host2 = true) : s.el2Enabled = true := by
  simp only [State.host2, State.elIsInHost, Bool.and_eq_true] at h
  exact h.1.2

/-! ## The exceptions of the checks -/

/-- Each exception that an access with this outcome can end in can be taken: the trap, or the fault of an NVMem
access, which goes to EL2. -/
def Access.Takeable (s : State) : Access → Prop
  | .undefined => True
  | .trap target => s.CanTake target
  | .nvMem _ => s.CanTake .el2
  | .register _ _ => True

theorem undefinedOr_takeable {s : State} {c : Prop} [Decidable c] {a : Access} (ha : a.Takeable s) :
    (if c then Access.undefined else a).Takeable s := by
  split
  · trivial
  · exact ha

/-- A trap to EL2 by a condition that requires EL2 to be enabled. -/
theorem el2TrapOr_takeable {s : State} {c : Bool} {a : Access} (hc : c = true → s.el2Enabled = true)
    (hl : s.pstate.el = .el0 ∨ s.pstate.el = .el1) (ha : a.Takeable s) :
    (if c then Access.trap .el2 else a).Takeable s := by
  split
  · exact State.canTake_el2 (hc ‹_›) hl
  · exact ha

/-- Where EL3 disables an access: UNDEFINED in Debug state with EDSCR.SDD 1, a trap to EL3 otherwise. -/
theorem el3TrapOr_takeable {s : State} {c : Bool} {a : Access} (hc : c = true → s.cfg.haveEL3 = true)
    (ha : a.Takeable s) :
    (if c then (if s.el3SddUndef then Access.undefined else .trap .el3) else a).Takeable s := by
  split
  · exact undefinedOr_takeable (State.canTake_el3 (hc ‹_›))
  · exact ha

/-- The redirection to NVMem under a nonzero `nvx`. -/
theorem nvMemOr_takeable {s : State} {n : BitVec 3} (hn : n ≠ 0) (hl : s.pstate.el = .el1) (offset : Dword)
    {a : Access} (ha : a.Takeable s) : (if s.nvx == n then .nvMem offset else a).Takeable s := by
  split
  · rename_i h
    exact State.canTake_el2 (State.el2Enabled_of_nvx fun h0 => hn ((beq_iff_eq.1 h).symm.trans h0)) (.inr hl)
  · exact ha

/-- At EL2 a name reaches one register in host and another one otherwise. -/
theorem hostChoice_takeable (s : State) (r r' : SysReg) (m m' : Dword) :
    (if s.host2 then Access.register r m else .register r' m').Takeable s := by
  split <;> trivial

/-- The EL12 names exist above EL1 in a host only. -/
theorem inHost_takeable {s : State} {a : Access} (ha : a.Takeable s) :
    (if s.host2 then a else .undefined).Takeable s := by
  split
  · exact ha
  · trivial

/-- The frame that every accessor but the ID reads has: UNDEFINED where it is absent and at EL0, and one course for
each level above. -/
theorem course_takeable {s : State} {absent : Prop} [Decidable absent] {a1 a2 a3 : Access}
    (h1 : s.pstate.el = .el1 → a1.Takeable s) (h2 : a2.Takeable s) (h3 : a3.Takeable s) :
    (if absent then Access.undefined
      else
        match s.pstate.el with
        | .el0 => .undefined
        | .el1 => a1
        | .el2 => a2
        | .el3 => a3).Takeable s := by
  refine undefinedOr_takeable ?_
  split
  · trivial
  · exact h1 ‹_›
  · exact h2
  · exact h3

/-! ### The ID registers -/

theorem haveEL3_of_idDisabled {s : State} (h : idDisabledByEl3 s = true) : s.cfg.haveEL3 = true :=
  Bool.and_elim_left (Bool.and_elim_left h)

theorem idAccess_takeable (s : State) (tid3Applies : Bool) (r : SysReg) : (idAccess s tid3Applies r).Takeable s := by
  unfold idAccess
  split
  · rename_i hl
    unfold idAccessEl0
    split
    · exact el2TrapOr_takeable Bool.and_elim_left (.inl hl) (State.canTake_el1_of_el0 hl)
    · trivial
  · exact undefinedOr_takeable (el2TrapOr_takeable (fun h => Bool.and_elim_left (Bool.and_elim_left h)) (.inr ‹_›)
      (el3TrapOr_takeable haveEL3_of_idDisabled trivial))
  · exact undefinedOr_takeable (el3TrapOr_takeable haveEL3_of_idDisabled trivial)
  · trivial

theorem accessMrsIdAa64dfr0El1_takeable (s : State) : (accessMrsIdAa64dfr0El1 s).Takeable s :=
  undefinedOr_takeable (idAccess_takeable ..)

theorem accessMrsIdAa64isar1El1_takeable (s : State) : (accessMrsIdAa64isar1El1 s).Takeable s :=
  undefinedOr_takeable (idAccess_takeable ..)

theorem accessMrsIdAa64isar2El1_takeable (s : State) : (accessMrsIdAa64isar2El1 s).Takeable s :=
  undefinedOr_takeable (idAccess_takeable ..)

theorem accessMrsIdAa64smfr0El1_takeable (s : State) : (accessMrsIdAa64smfr0El1 s).Takeable s :=
  idAccess_takeable ..

/-! ### SCTLR_EL2 and HFGRTR2_EL2 -/

/-- The EL1 line of a register of EL2: a trap to EL2 under nested virtualization, UNDEFINED otherwise. -/
theorem nestedTrap_takeable {s : State} (hl : s.pstate.el = .el1) :
    (if s.nvTraps then Access.trap .el2 else .undefined).Takeable s :=
  el2TrapOr_takeable State.el2Enabled_of_nvTraps (.inr hl) trivial

theorem accessMrsSctlrEl2_takeable (s : State) : (accessMrsSctlrEl2 s).Takeable s :=
  course_takeable nestedTrap_takeable trivial trivial

theorem accessMsrSctlrEl2_takeable (s : State) : (accessMsrSctlrEl2 s).Takeable s :=
  course_takeable nestedTrap_takeable trivial trivial

theorem fgt2El3Control_takeable {s : State} {a : Access} (ha : a.Takeable s) :
    ((fgt2El3Control s).getD a).Takeable s := by
  unfold fgt2El3Control
  split
  · trivial
  · split
    · rename_i h
      exact undefinedOr_takeable (State.canTake_el3 (Bool.and_elim_left h))
    · exact ha

theorem accessHfgrtr2El2_takeable (s : State) : (accessHfgrtr2El2 s).Takeable s :=
  course_takeable
    (fun hl => by
      split
      · exact State.canTake_el2 (State.el2Enabled_of_nv2Active ‹_›) (.inr hl)
      · exact nestedTrap_takeable hl)
    (fgt2El3Control_takeable trivial) trivial

/-! ### SCTLR_EL1 and the names of TCR_EL1 -/

theorem accessMrsSctlrEl1_takeable (s : State) : (accessMrsSctlrEl1 s).Takeable s :=
  course_takeable
    (fun hl => el2TrapOr_takeable Bool.and_elim_left (.inr hl)
      (el2TrapOr_takeable (fun h => Bool.and_elim_left (Bool.and_elim_left h)) (.inr hl)
        (nvMemOr_takeable (n := 7) (by decide) hl _ trivial)))
    (hostChoice_takeable ..) trivial

theorem accessMsrSctlrEl1_takeable (s : State) : (accessMsrSctlrEl1 s).Takeable s :=
  course_takeable
    (fun hl => el2TrapOr_takeable Bool.and_elim_left (.inr hl)
      (el2TrapOr_takeable (fun h => Bool.and_elim_left (Bool.and_elim_left h)) (.inr hl)
        (nvMemOr_takeable (n := 7) (by decide) hl _ trivial)))
    (hostChoice_takeable ..) trivial

theorem tcrAccessEl1_takeable {s : State} (hl : s.pstate.el = .el1) (vmTrap fineTrap : Bool) (r : SysReg)
    (mask : Dword) : (tcrAccessEl1 s vmTrap fineTrap r mask).Takeable s :=
  el2TrapOr_takeable Bool.and_elim_left (.inr hl) (el2TrapOr_takeable Bool.and_elim_left (.inr hl)
    (nvMemOr_takeable (n := 7) (by decide) hl _ trivial))

theorem accessMrsTcrEl1_takeable (s : State) : (accessMrsTcrEl1 s).Takeable s :=
  course_takeable (fun hl => tcrAccessEl1_takeable hl ..) (hostChoice_takeable ..) trivial

theorem accessMsrTcrEl1_takeable (s : State) : (accessMsrTcrEl1 s).Takeable s :=
  course_takeable (fun hl => tcrAccessEl1_takeable hl ..) (hostChoice_takeable ..) trivial

theorem accessMrsTcraliasEl1_takeable (s : State) : (accessMrsTcraliasEl1 s).Takeable s :=
  course_takeable (fun hl => tcrAccessEl1_takeable hl ..) (hostChoice_takeable ..) trivial

theorem accessMsrTcraliasEl1_takeable (s : State) : (accessMsrTcraliasEl1 s).Takeable s :=
  course_takeable (fun hl => tcrAccessEl1_takeable hl ..) (hostChoice_takeable ..) trivial

theorem accessTcrEl12_takeable (s : State) : (accessTcrEl12 s).Takeable s :=
  course_takeable (fun hl => nvMemOr_takeable (n := 5) (by decide) hl _ (nestedTrap_takeable hl))
    (inHost_takeable trivial) (inHost_takeable trivial)

/-! ### The names of TCR2_EL1 -/

theorem haveEL3_of_tcr2Disabled {s : State} (h : tcr2DisabledByEl3 s = true) : s.cfg.haveEL3 = true :=
  Bool.and_elim_left h

theorem tcr2AccessEl1_takeable {s : State} (hl : s.pstate.el = .el1) (vmTrap fineTrap : Bool) (r : SysReg)
    (mask : Dword) : (tcr2AccessEl1 s vmTrap fineTrap r mask).Takeable s :=
  undefinedOr_takeable (el2TrapOr_takeable Bool.and_elim_left (.inr hl)
    (el2TrapOr_takeable Bool.and_elim_left (.inr hl) (el2TrapOr_takeable Bool.and_elim_left (.inr hl)
      (el3TrapOr_takeable haveEL3_of_tcr2Disabled (nvMemOr_takeable (n := 7) (by decide) hl _ trivial)))))

theorem tcr2AccessEl2_takeable (s : State) (r : SysReg) (maskEl2 : Dword) :
    (tcr2AccessEl2 s r maskEl2).Takeable s :=
  undefinedOr_takeable (el3TrapOr_takeable haveEL3_of_tcr2Disabled (hostChoice_takeable ..))

theorem accessMrsTcr2El1_takeable (s : State) : (accessMrsTcr2El1 s).Takeable s :=
  course_takeable (fun hl => tcr2AccessEl1_takeable hl ..) (tcr2AccessEl2_takeable ..) trivial

theorem accessMsrTcr2El1_takeable (s : State) : (accessMsrTcr2El1 s).Takeable s :=
  course_takeable (fun hl => tcr2AccessEl1_takeable hl ..) (tcr2AccessEl2_takeable ..) trivial

theorem accessMrsTcr2aliasEl1_takeable (s : State) : (accessMrsTcr2aliasEl1 s).Takeable s :=
  course_takeable (fun hl => tcr2AccessEl1_takeable hl ..) (tcr2AccessEl2_takeable ..) trivial

theorem accessMsrTcr2aliasEl1_takeable (s : State) : (accessMsrTcr2aliasEl1 s).Takeable s :=
  course_takeable (fun hl => tcr2AccessEl1_takeable hl ..) (tcr2AccessEl2_takeable ..) trivial

theorem accessTcr2El12_takeable (s : State) : (accessTcr2El12 s).Takeable s :=
  course_takeable (fun hl => nvMemOr_takeable (n := 5) (by decide) hl _ (nestedTrap_takeable hl))
    (inHost_takeable (undefinedOr_takeable (el3TrapOr_takeable haveEL3_of_tcr2Disabled trivial)))
    (inHost_takeable trivial)

/-! ### All accessors -/

/-- An accessor is a read or a write after its checks, and each exception of the checks can be taken. -/
theorem exec_course (i : Instr) (s : State) :
    ∃ a : Access, a.Takeable s ∧ (exec i s = performRead i a s ∨ exec i s = performWrite i a s) := by
  cases i with
  | mrsSctlrEl2 rt => exact ⟨_, accessMrsSctlrEl2_takeable s, .inl rfl⟩
  | msrSctlrEl2 rt => exact ⟨_, accessMsrSctlrEl2_takeable s, .inr rfl⟩
  | mrsSctlrEl1 rt => exact ⟨_, accessMrsSctlrEl1_takeable s, .inl rfl⟩
  | msrSctlrEl1 rt => exact ⟨_, accessMsrSctlrEl1_takeable s, .inr rfl⟩
  | mrsHfgrtr2El2 rt => exact ⟨_, accessHfgrtr2El2_takeable s, .inl rfl⟩
  | msrHfgrtr2El2 rt => exact ⟨_, accessHfgrtr2El2_takeable s, .inr rfl⟩
  | mrsIdAa64dfr0El1 rt => exact ⟨_, accessMrsIdAa64dfr0El1_takeable s, .inl rfl⟩
  | mrsIdAa64isar1El1 rt => exact ⟨_, accessMrsIdAa64isar1El1_takeable s, .inl rfl⟩
  | mrsIdAa64isar2El1 rt => exact ⟨_, accessMrsIdAa64isar2El1_takeable s, .inl rfl⟩
  | mrsIdAa64smfr0El1 rt => exact ⟨_, accessMrsIdAa64smfr0El1_takeable s, .inl rfl⟩
  | mrsTcr2El1 rt => exact ⟨_, accessMrsTcr2El1_takeable s, .inl rfl⟩
  | msrTcr2El1 rt => exact ⟨_, accessMsrTcr2El1_takeable s, .inr rfl⟩
  | mrsTcr2El12 rt => exact ⟨_, accessTcr2El12_takeable s, .inl rfl⟩
  | msrTcr2El12 rt => exact ⟨_, accessTcr2El12_takeable s, .inr rfl⟩
  | mrsTcr2aliasEl1 rt => exact ⟨_, accessMrsTcr2aliasEl1_takeable s, .inl rfl⟩
  | msrTcr2aliasEl1 rt => exact ⟨_, accessMsrTcr2aliasEl1_takeable s, .inr rfl⟩
  | mrsTcrEl1 rt => exact ⟨_, accessMrsTcrEl1_takeable s, .inl rfl⟩
  | msrTcrEl1 rt => exact ⟨_, accessMsrTcrEl1_takeable s, .inr rfl⟩
  | mrsTcrEl12 rt => exact ⟨_, accessTcrEl12_takeable s, .inl rfl⟩
  | msrTcrEl12 rt => exact ⟨_, accessTcrEl12_takeable s, .inr rfl⟩
  | mrsTcraliasEl1 rt => exact ⟨_, accessMrsTcraliasEl1_takeable s, .inl rfl⟩
  | msrTcraliasEl1 rt => exact ⟨_, accessMsrTcraliasEl1_takeable s, .inr rfl⟩

/-! ## The shapes of a next state -/

/-- All that a step from `s` can end in: an exception that can be taken, a value from memory or from a register in a
general register, a store to NVMem, a write of a register. -/
inductive StepCase (s : State) : State → Prop
  | exception (kind : ExcKind) (target : EL) (cause : ExcCause) (iss : Option (BitVec 25)) (h : s.CanTake target) :
      StepCase s (s.takeException kind target cause iss)
  | load (rt : Nat) (v : Dword) : StepCase s (s.writeX rt v).retire
  | read (r : SysReg) (rt : Nat) (v : Dword) : StepCase s ((s.orderRead r).writeX rt v).retire
  | store (offset v : Dword) : StepCase s (s.nvMemWrite offset v).retire
  | write (r : SysReg) (v m : Dword) : StepCase s (s.writeReg r v m).retire

theorem StepCase.nvMemFault {s : State} (h : s.CanTake .el2) : StepCase s s.nvMemFault :=
  .exception .fault .el2 (.fault .nvMemAccess) none h

theorem StepCase.takeUndefined (s : State) : StepCase s s.takeUndefined :=
  .exception _ _ _ _ s.canTake_undefinedTarget

theorem performRead_cases {i : Instr} {a : Access} {s t : State} (ha : a.Takeable s)
    (h : performRead i a s = .next t) : StepCase s t := by
  cases a with
  | undefined =>
    cases h
    exact .takeUndefined s
  | trap target =>
    cases h
    exact .exception _ target _ _ ha
  | nvMem offset =>
    cases h
    split
    · exact .nvMemFault ha
    · exact .load ..
  | register r m =>
    cases h
    exact .read ..

theorem performWrite_cases {i : Instr} {a : Access} {s t : State} (ha : a.Takeable s)
    (h : performWrite i a s = .next t) : StepCase s t := by
  cases a with
  | undefined =>
    cases h
    exact .takeUndefined s
  | trap target =>
    cases h
    exact .exception _ target _ _ ha
  | nvMem offset =>
    cases h
    split
    · exact .nvMemFault ha
    · exact .store ..
  | register r m =>
    cases h
    exact .write ..

theorem exec_cases {i : Instr} {s t : State} (h : exec i s = .next t) : StepCase s t := by
  obtain ⟨a, ha, hread | hwrite⟩ := exec_course i s
  · exact performRead_cases ha (hread.symm.trans h)
  · exact performWrite_cases ha (hwrite.symm.trans h)

/-- TIDCP traps at EL0 in a host only, so EL2 is enabled there. -/
theorem canTake_el2_of_trapTidcp {s : State} {v : Dword} {a : ImplDefAccess} (h : trapTidcp s v a = true) :
    s.CanTake .el2 := by
  simp only [trapTidcp, State.hostEl0, State.hostTge, Bool.and_eq_true, beq_iff_eq] at h
  obtain ⟨⟨⟨hl, hhost, -⟩, -⟩, -⟩ := h
  exact State.canTake_el2 (State.el2Enabled_of_host2 hhost) (.inl hl)

theorem run_cases {d : Decoded} {s t : State} (h : run d s = .next t) : StepCase s t := by
  cases d with
  | instr i => exact exec_cases h
  | readOnlyWrite w =>
    cases h
    exact .takeUndefined s
  | implementationDefined w =>
    simp only [run, execImplementationDefined] at h
    split at h
    · cases h
      exact .exception _ _ _ _ (canTake_el2_of_trapTidcp ‹_›)
    · cases h
  | otherRegister w => cases h
  | notSysMove w => cases h
  | truncated => cases h

/-- Everything a step that answers a next state can do. -/
theorem step_cases {s t : State} (h : step s = .next t) : StepCase s t := by
  unfold step at h
  split at h
  · exact run_cases h
  · cases h

end Sys2Proof.Machine
end

section
/-! SUPPORT. The part of the state that no step changes, and the parts that a write of a register can change. -/

namespace Sys2Proof.Machine

/-! ## The inputs -/

/-- The configuration, the control inputs, the stack pointers, the vector bases and the registers that are only named
(R24, R29, R31, R33). -/
structure Inputs where
  cfg : Config
  el2Aarch32 : Bool
  hcrEl2 : HcrEl2
  hcrxEl2 : HcrxEl2
  scrEl3 : ScrEl3
  fgt : FineGrainedTraps
  masks : WriteMasks
  nvMemBase : Dword
  nvMemFaults : NvMemFaults
  dbgState : DebugState
  tcr2El2Pie : Bool
  sctlr2El2Nmea : Bool
  controlled : ControlledRegisters
  named : NamedRegisters
  spEl0 : Dword
  spEl1 : Dword
  spEl2 : Dword
  spEl3 : Dword
  vbarEl1 : Dword
  vbarEl2 : Dword
  vbarEl3 : Dword
  wfeCycles : Nat

/-- The inputs as a state holds them. -/
def State.inputs (s : State) : Inputs where
  cfg := s.cfg
  el2Aarch32 := s.el2Aarch32
  hcrEl2 := s.hcrEl2
  hcrxEl2 := s.hcrxEl2
  scrEl3 := s.scrEl3
  fgt := s.fgt
  masks := s.masks
  nvMemBase := s.nvMemBase
  nvMemFaults := s.nvMemFaults
  dbgState := s.dbgState
  tcr2El2Pie := s.tcr2El2Pie
  sctlr2El2Nmea := s.sctlr2El2Nmea
  controlled := s.controlled
  named := s.named
  spEl0 := s.spEl0
  spEl1 := s.spEl1
  spEl2 := s.spEl2
  spEl3 := s.spEl3
  vbarEl1 := s.bankEl1.vbar
  vbarEl2 := s.bankEl2.vbar
  vbarEl3 := s.bankEl3.vbar
  wfeCycles := s.wfeCycles

@[simp] theorem State.retire_inputs (s : State) : s.retire.inputs = s.inputs := rfl
@[simp] theorem State.nvMemWrite_inputs (s : State) (offset v : Dword) :
    (s.nvMemWrite offset v).inputs = s.inputs := rfl

@[simp] theorem State.writeX_inputs (s : State) (rt : Nat) (v : Dword) : (s.writeX rt v).inputs = s.inputs := by
  unfold State.writeX
  split <;> rfl

@[simp] theorem State.orderRead_inputs (s : State) (r : SysReg) : (s.orderRead r).inputs = s.inputs := by
  unfold State.orderRead
  split
  · split <;> rfl
  all_goals rfl

/-- A write of a register changes nothing but registers. -/
theorem State.writeReg_frame (s : State) (r : SysReg) (v m : Dword) :
    ∃ (sctlrEl2 hfgrtr2El2 tcrEl1 tcr2El1 : CtlReg) (sctlrEl1 tcrEl2 tcr2El2 : Dword),
      s.writeReg r v m =
        { s with
          sctlrEl2 := sctlrEl2, hfgrtr2El2 := hfgrtr2El2, tcrEl1 := tcrEl1, tcr2El1 := tcr2El1
          sctlrEl1 := sctlrEl1, tcrEl2 := tcrEl2, tcr2El2 := tcr2El2 } := by
  simp only [State.writeReg]
  split
  case h_1 => split <;> exact ⟨_, _, _, _, _, _, _, rfl⟩
  case h_3 => split <;> exact ⟨_, _, _, _, _, _, _, rfl⟩
  all_goals exact ⟨_, _, _, _, _, _, _, rfl⟩

@[simp] theorem State.writeReg_inputs (s : State) (r : SysReg) (v m : Dword) :
    (s.writeReg r v m).inputs = s.inputs := by
  obtain ⟨_, _, _, _, _, _, _, h⟩ := s.writeReg_frame r v m
  rw [h]
  rfl

@[simp] theorem State.writeReg_pc (s : State) (r : SysReg) (v m : Dword) : (s.writeReg r v m).pc = s.pc := by
  obtain ⟨_, _, _, _, _, _, _, h⟩ := s.writeReg_frame r v m
  rw [h]

@[simp] theorem State.writeReg_pstate (s : State) (r : SysReg) (v m : Dword) :
    (s.writeReg r v m).pstate = s.pstate := by
  obtain ⟨_, _, _, _, _, _, _, h⟩ := s.writeReg_frame r v m
  rw [h]

@[simp] theorem State.writeReg_mem (s : State) (r : SysReg) (v m : Dword) : (s.writeReg r v m).mem = s.mem := by
  obtain ⟨_, _, _, _, _, _, _, h⟩ := s.writeReg_frame r v m
  rw [h]

/-- Of the registers of the target level, entry keeps the vector base. -/
theorem State.saveAndVector_inputs (s : State) (kind : ExcKind) (target : EL) (cause : ExcCause)
    (iss : Option (BitVec 25)) (ctxSync errorSync : Bool) :
    (s.saveAndVector kind target cause iss ctxSync errorSync).inputs = s.inputs := by
  cases target <;> rfl

theorem State.enterEl2_inputs (s : State) (kind : ExcKind) (cause : ExcCause) (iss : Option (BitVec 25)) :
    (s.enterEl2 kind cause iss).inputs = s.inputs := by
  simp only [State.enterEl2]
  generalize entrySynchronizes s _ = ctxSync, errorSyncAdded s _ _ _ = errorSync
  have hsave := s.saveAndVector_inputs kind .el2 cause iss ctxSync errorSync
  split <;> split <;> exact hsave

@[simp] theorem State.takeException_inputs (s : State) (kind : ExcKind) (target : EL) (cause : ExcCause)
    (iss : Option (BitVec 25)) : (s.takeException kind target cause iss).inputs = s.inputs := by
  cases target with
  | el2 => exact s.enterEl2_inputs kind cause iss
  | el3 => exact s.saveAndVector_inputs kind .el3 cause iss true false
  | _ => exact s.saveAndVector_inputs kind .el1 cause iss true false

theorem StepCase.inputs {s t : State} (h : StepCase s t) : t.inputs = s.inputs := by
  cases h <;> simp

/-- Settles O43: the components of the inputs, kept by every shape of a step. -/
theorem stepKeepsConfigurationAndInputs : Obligations.StepKeepsConfigurationAndInputs := by
  intro s t h
  have hin : t.inputs = s.inputs := (step_cases h).inputs
  simpa only [State.inputs, Inputs.mk.injEq] using hin

end Sys2Proof.Machine
end

section
/-! SUPPORT. What direct accesses and synchronization keep of an owned register: its constant bits (D3) and the
consistency of the reads in flight (R560). -/

namespace Sys2Proof.Machine

/-! ## Constant bits -/

theorem ConstantBits.apply_getLsbD (k : ConstantBits) (v : Dword) (i : Nat) :
    (k.apply v).getLsbD i = ((v.getLsbD i && !(k.zeros.getLsbD i || k.ones.getLsbD i)) || k.ones.getLsbD i) := by
  by_cases hi : i < 64
  · simp [ConstantBits.apply, hi]
  · simp [BitVec.getLsbD_of_ge _ _ (not_lt.1 hi)]

@[simp] theorem ConstantBits.apply_apply (k : ConstantBits) (v : Dword) : k.apply (k.apply v) = k.apply v := by
  refine BitVec.eq_of_getLsbD_eq fun i _ => ?_
  simp only [ConstantBits.apply_getLsbD]
  cases v.getLsbD i <;> cases k.zeros.getLsbD i <;> cases k.ones.getLsbD i <;> rfl

@[simp] theorem ConstantBits.maskOnStorage_maskOnStorage (k : ConstantBits) (m : Dword) :
    k.maskOnStorage (k.maskOnStorage m) = k.maskOnStorage m := by
  simp only [ConstantBits.maskOnStorage, BitVec.and_assoc, BitVec.and_self]

theorem maskedWrite_eq_mergeBits (v old m : Dword) : maskedWrite v old m = mergeBits m v old := BitVec.or_comm ..

/-- Each bit of a masked write comes from one of two values that have the constants. -/
theorem ConstantBits.apply_maskedWrite {k : ConstantBits} {v old : Dword} (m : Dword) (hv : k.apply v = v)
    (hold : k.apply old = old) : k.apply (maskedWrite v old m) = maskedWrite v old m := by
  refine BitVec.eq_of_getLsbD_eq fun i _ => ?_
  have hv' := congrArg (BitVec.getLsbD · i) hv
  have hold' := congrArg (BitVec.getLsbD · i) hold
  simp only [ConstantBits.apply_getLsbD] at hv' hold'
  rw [ConstantBits.apply_getLsbD, maskedWrite_eq_mergeBits, mergeBits_bit]
  split
  · exact hold'
  · exact hv'

theorem NamedAccess.apply_constant {k : ConstantBits} {v : Dword} {e : NamedAccess} (hv : k.apply v = v)
    (he : e.constant k = true) : k.apply (e.apply v) = e.apply v := by
  cases e with
  | wrote n value mask =>
    simp only [NamedAccess.constant, Bool.and_eq_true, beq_iff_eq] at he
    exact ConstantBits.apply_maskedWrite mask he.1 hv
  | read n seen => exact hv

theorem replay_constant {k : ConstantBits} {base : Dword} {l : List NamedAccess} (hb : k.apply base = base)
    (hl : ∀ e ∈ l, e.constant k = true) : k.apply (replay base l) = replay base l := by
  induction l generalizing base with
  | nil => exact hb
  | cons e l ih =>
    obtain ⟨he, hl⟩ := List.forall_mem_cons.1 hl
    exact ih (NamedAccess.apply_constant hb he) hl

theorem passedValues_constant {k : ConstantBits} {base : Dword} {l : List NamedAccess} (hb : k.apply base = base)
    (hl : ∀ e ∈ l, e.constant k = true) : ∀ v ∈ passedValues base l, k.apply v = v := by
  induction l generalizing base with
  | nil => nofun
  | cons e l ih =>
    obtain ⟨he, hl⟩ := List.forall_mem_cons.1 hl
    exact List.forall_mem_cons.2 ⟨hb, ih (NamedAccess.apply_constant hb he) hl⟩

/-- An access put at a place of a run. -/
theorem forall_mem_placed {p : NamedAccess → Prop} {l : List NamedAccess} {e : NamedAccess} (k : Nat) (he : p e)
    (hl : ∀ a ∈ l, p a) : ∀ a ∈ l.take k ++ e :: l.drop k, p a := by
  intro a ha
  rcases List.mem_append.1 ha with ha | ha
  · exact hl a (List.mem_of_mem_take ha)
  · rcases List.mem_cons.1 ha with rfl | ha
    · exact he
    · exact hl a (List.mem_of_mem_drop ha)

theorem CtlReg.constant_iff (k : ConstantBits) (r : CtlReg) :
    r.constant k = true ↔ k.apply r.base = r.base ∧ (∀ v ∈ r.unsynced, k.apply v = v) ∧
      (∀ v ∈ r.stale, k.apply v = v) ∧ ∀ e ∈ r.tail, e.constant k = true := by
  simp only [CtlReg.constant, Bool.and_eq_true, List.all_eq_true, List.forall_mem_cons, List.forall_mem_append,
    beq_iff_eq, and_assoc]

theorem CtlReg.val_constant {k : ConstantBits} {r : CtlReg} (h : r.constant k = true) : k.apply r.val = r.val := by
  obtain ⟨hb, -, -, ht⟩ := (r.constant_iff k).1 h
  exact replay_constant hb ht

/-! ## Consistent runs -/

theorem consistent_append (base : Dword) (l l' : List NamedAccess) :
    consistent base (l ++ l') = (consistent base l && consistent (replay base l) l') := by
  induction l generalizing base with
  | nil => rfl
  | cons e l ih =>
    cases e with
    | wrote n value mask => exact ih _
    | read n seen =>
      show (seen == base && consistent base (l ++ l')) = _
      rw [ih base, ← Bool.and_assoc]
      rfl

/-- A read that returns the value of its place contradicts nothing. -/
theorem consistent_read_placed {base : Dword} {l : List NamedAccess} (h : consistent base l = true) (k : Nat)
    (name : AccessName) :
    consistent base (l.take k ++ .read name (replay base (l.take k)) :: l.drop k) = true := by
  rw [← l.take_append_drop k, consistent_append] at h
  rw [consistent_append]
  simpa [consistent] using h

/-- A write after every other access contradicts no read. -/
theorem consistent_wrote_last {base : Dword} {l : List NamedAccess} (h : consistent base l = true)
    (name : AccessName) (value mask : Dword) : consistent base (l ++ [.wrote name value mask]) = true := by
  rw [consistent_append, h]
  rfl

/-! ## What an operation keeps of a register -/

/-- `r'` has the constants of `k` and consistent reads in flight where `r` has. -/
structure CtlReg.Keeps (k : ConstantBits) (r r' : CtlReg) : Prop where
  constant : r.constant k = true → r'.constant k = true
  consistent : consistent r.base r.tail = true → consistent r'.base r'.tail = true

theorem CtlReg.Keeps.refl (k : ConstantBits) (r : CtlReg) : CtlReg.Keeps k r r := ⟨id, id⟩

theorem CtlReg.keeps_synchronize (k : ConstantBits) (r : CtlReg) : CtlReg.Keeps k r r.synchronize where
  constant h := by
    obtain ⟨-, -, hs, -⟩ := (r.constant_iff k).1 h
    exact (r.synchronize.constant_iff k).2 ⟨CtlReg.val_constant h, nofun, hs, nofun⟩
  consistent _ := rfl

theorem ReadInOrder.keeps {k : ConstantBits} {r r' : CtlReg} {hazard : Bool} {name : AccessName} {v : Dword}
    (h : ReadInOrder r r' hazard name v) : CtlReg.Keeps k r r' := by
  unfold ReadInOrder at h
  split at h
  · obtain ⟨-, rfl⟩ := h
    refine ⟨fun hc => ?_, fun _ => rfl⟩
    obtain ⟨-, hu, hs, -⟩ := (r.constant_iff k).1 hc
    exact (CtlReg.constant_iff k _).2 ⟨CtlReg.val_constant hc, hu, hs, nofun⟩
  · obtain ⟨n, -, -, rfl, rfl⟩ := h
    split
    · exact .refl k r
    · refine ⟨fun hc => ?_, fun hc => consistent_read_placed hc n name⟩
      obtain ⟨hb, hu, hs, ht⟩ := (r.constant_iff k).1 hc
      exact (CtlReg.constant_iff k _).2 ⟨hb, hu, hs, forall_mem_placed n rfl ht⟩

theorem WrittenInOrder.keeps {k : ConstantBits} {r r' : CtlReg} {cacheable hazard : Bool} {name : AccessName}
    {value mask : Dword} (h : WrittenInOrder r r' cacheable hazard name value mask) (hv : k.apply value = value)
    (hm : k.maskOnStorage mask = mask) : CtlReg.Keeps k r r' := by
  obtain ⟨hw, hu', hs'⟩ := h
  constructor
  · intro hc
    have hval := CtlReg.val_constant hc
    obtain ⟨hb, hu, hs, ht⟩ := (r.constant_iff k).1 hc
    have hafter : k.apply r'.base = r'.base ∧ ∀ e ∈ r'.tail, e.constant k = true := by
      split at hw
      · obtain ⟨hb', ht'⟩ := hw
        rw [hb', ht']
        exact ⟨ConstantBits.apply_maskedWrite mask hv hval, nofun⟩
      · obtain ⟨hb', n, -, -, ht', -⟩ := hw
        rw [hb', ht']
        exact ⟨hb, forall_mem_placed n (by simp [NamedAccess.constant, hv, hm]) ht⟩
    obtain ⟨hb', ht'⟩ := hafter
    have hpassed := passedValues_constant hb' ht'
    refine (r'.constant_iff k).2 ⟨hb', fun v hmem => ?_, fun v hmem => ?_, ht'⟩
    · rcases (hu' v).1 hmem with rfl | hp | hold
      · exact hval
      · exact hpassed v hp
      · exact hu v hold
    · rcases (hs' v).1 hmem with ⟨-, rfl | hp⟩ | hold
      · exact hval
      · exact hpassed v hp
      · exact hs v hold
  · intro hc
    split at hw
    · rw [hw.2]
      rfl
    · obtain ⟨hb', n, -, -, ht', rfl | hcons⟩ := hw
      · rw [hb', ht', List.take_length, List.drop_length]
        exact consistent_wrote_last hc name value mask
      · exact hcons

theorem CtlReg.keeps_afterRead (k : ConstantBits) (r : CtlReg) (hazard : Bool) (name : AccessName) (n : Nat) :
    CtlReg.Keeps k r (r.afterRead hazard name n) := (r.directRead_inOrder hazard name n).keeps

/-- A direct write as `writeReg` makes it: the operand with the constants, the mask on storage. -/
theorem CtlReg.keeps_directWrite (k : ConstantBits) (r : CtlReg) (cacheable hazard : Bool) (name : AccessName)
    (v m : Dword) (n : Nat) :
    CtlReg.Keeps k r (r.directWrite cacheable hazard name (k.apply v) (k.maskOnStorage m) n) :=
  (r.directWrite_inOrder cacheable hazard name _ _ n).keeps (k.apply_apply v) (k.maskOnStorage_maskOnStorage m)

/-- The owned registers of `t` are kept as those of `s` are. -/
structure State.KeepsOwned (s t : State) : Prop where
  sctlrEl2 : CtlReg.Keeps (sctlrConstants s.cfg) s.sctlrEl2 t.sctlrEl2
  hfgrtr2El2 : CtlReg.Keeps (hfgrtr2Constants s.cfg) s.hfgrtr2El2 t.hfgrtr2El2
  tcrEl1 : CtlReg.Keeps (tcrConstants s.cfg) s.tcrEl1 t.tcrEl1
  tcr2El1 : CtlReg.Keeps (tcr2Constants s.cfg) s.tcr2El1 t.tcr2El1

theorem State.KeepsOwned.refl (s : State) : s.KeepsOwned s := ⟨.refl .., .refl .., .refl .., .refl ..⟩

/-- The owned registers as a state holds them. -/
def State.owned (s : State) : CtlReg × CtlReg × CtlReg × CtlReg := (s.sctlrEl2, s.hfgrtr2El2, s.tcrEl1, s.tcr2El1)

@[simp] theorem State.retire_owned (s : State) : s.retire.owned = s.owned := rfl
@[simp] theorem State.nvMemWrite_owned (s : State) (offset v : Dword) : (s.nvMemWrite offset v).owned = s.owned := rfl
@[simp] theorem State.writeX_owned (s : State) (rt : Nat) (v : Dword) : (s.writeX rt v).owned = s.owned := by
  simp [State.owned]

/-- A later state with the same registers. -/
theorem State.KeepsOwned.of_owned_eq {s t u : State} (h : s.KeepsOwned t) (hu : u.owned = t.owned) :
    s.KeepsOwned u := by
  simp only [State.owned, Prod.mk.injEq] at hu
  obtain ⟨h1, h2, h3, h4⟩ := hu
  exact ⟨h1 ▸ h.sctlrEl2, h2 ▸ h.hfgrtr2El2, h3 ▸ h.tcrEl1, h4 ▸ h.tcr2El1⟩

theorem State.keepsOwned_contextSync (s : State) : s.KeepsOwned s.contextSync :=
  ⟨s.sctlrEl2.keeps_synchronize _, s.hfgrtr2El2.keeps_synchronize _, s.tcrEl1.keeps_synchronize _,
    s.tcr2El1.keeps_synchronize _⟩

theorem State.keepsOwned_orderRead (s : State) (r : SysReg) : s.KeepsOwned (s.orderRead r) := by
  have h := State.KeepsOwned.refl s
  cases r with
  | sctlrEl2 name =>
    simp only [State.orderRead]
    split
    · exact { h with sctlrEl2 := s.sctlrEl2.keeps_afterRead .. }
    · exact h
  | tcrEl1 name => exact { h with tcrEl1 := s.tcrEl1.keeps_afterRead .. }
  | tcr2El1 name => exact { h with tcr2El1 := s.tcr2El1.keeps_afterRead .. }
  | _ => exact h

theorem State.keepsOwned_writeReg (s : State) (r : SysReg) (v m : Dword) : s.KeepsOwned (s.writeReg r v m) := by
  have h := State.KeepsOwned.refl s
  cases r with
  | sctlrEl2 name =>
    simp only [State.writeReg]
    split
    · exact { h with sctlrEl2 := s.sctlrEl2.keeps_directWrite .. }
    · exact h
  | hfgrtr2El2 =>
    simp only [State.writeReg]
    split
    · exact { h with hfgrtr2El2 := s.hfgrtr2El2.keeps_directWrite .. }
    · exact h
  | tcrEl1 name => exact { h with tcrEl1 := s.tcrEl1.keeps_directWrite .. }
  | tcr2El1 name => exact { h with tcr2El1 := s.tcr2El1.keeps_directWrite .. }
  | _ => exact h.of_owned_eq rfl

/-- An exception synchronizes the registers or leaves them alone. -/
theorem TakesException.keepsOwned {s t : State} {kind : ExcKind} {target : EL} {cause : ExcCause}
    {iss : Option (BitVec 25)} (h : TakesException s t kind target cause iss) : s.KeepsOwned t := by
  obtain ⟨-, -, -, -, ⟨cs, es, -, howned⟩, -⟩ := h
  cases cs with
  | true => exact s.keepsOwned_contextSync.of_owned_eq howned
  | false => exact (State.KeepsOwned.refl s).of_owned_eq howned

theorem StepCase.keepsOwned {s t : State} (h : StepCase s t) : s.KeepsOwned t := by
  cases h with
  | exception kind target cause iss h => exact (s.takeException_takes kind target cause iss h.1).keepsOwned
  | load rt v => exact (State.KeepsOwned.refl s).of_owned_eq (by simp)
  | read r rt v => exact (s.keepsOwned_orderRead r).of_owned_eq (by simp)
  | store offset v => exact (State.KeepsOwned.refl s).of_owned_eq (by simp)
  | write r v m => exact (s.keepsOwned_writeReg r v m).of_owned_eq (by simp)

theorem State.KeepsOwned.registersConstant {s t : State} (h : s.KeepsOwned t) (hcfg : t.cfg = s.cfg)
    (hs : s.registersConstant = true) : t.registersConstant = true := by
  simp only [State.registersConstant, Bool.and_eq_true, hcfg] at hs ⊢
  obtain ⟨⟨⟨h1, h2⟩, h3⟩, h4⟩ := hs
  exact ⟨⟨⟨h.sctlrEl2.constant h1, h.hfgrtr2El2.constant h2⟩, h.tcrEl1.constant h3⟩, h.tcr2El1.constant h4⟩

theorem State.KeepsOwned.readsConsistent {s t : State} (h : s.KeepsOwned t) (hs : s.readsConsistent = true) :
    t.readsConsistent = true := by
  simp only [State.readsConsistent, Bool.and_eq_true] at hs ⊢
  obtain ⟨⟨h1, h2⟩, h3⟩ := hs
  exact ⟨⟨h.sctlrEl2.consistent h1, h.tcrEl1.consistent h2⟩, h.tcr2El1.consistent h3⟩

end Sys2Proof.Machine
end

section
/-! SUPPORT. What a step keeps of memory, of the instruction addresses and of the current level, and the invariant. -/

namespace Sys2Proof.Machine

/-! ## Memory -/

theorem TakesException.mem_eq {s t : State} {kind : ExcKind} {target : EL} {cause : ExcCause}
    {iss : Option (BitVec 25)} (h : TakesException s t kind target cause iss) : t.mem = s.mem := by
  obtain ⟨-, -, -, -, -, -, -, -, -, -, -, hframe⟩ := h
  rw [hframe]

theorem StepCase.mem_wf {s t : State} (h : StepCase s t) (hm : s.mem.wf = true) : t.mem.wf = true := by
  cases h with
  | exception kind target cause iss h =>
    rwa [(s.takeException_takes kind target cause iss h.1).mem_eq]
  | load rt v => simpa using hm
  | read r rt v => simpa using hm
  | store offset v => exact s.storeBytes_wf _ _ hm
  | write r v m => simpa using hm

/-! ## Instruction addresses -/

theorem wordAligned_iff (a : Dword) : wordAligned a = true ↔ a.setWidth 2 = 0#2 := by
  rw [wordAligned, beq_iff_eq, BitVec.setWidth_eq_extractLsb' (by decide)]
  rfl

theorem wordAligned_add {a b : Dword} (ha : wordAligned a = true) (hb : wordAligned b = true) :
    wordAligned (a + b) = true := by
  rw [wordAligned_iff] at *
  rw [BitVec.setWidth_add _ _ (by decide), ha, hb]
  rfl

/-- The top-byte rule of R513 leaves the low bits alone. -/
theorem wordAligned_pcFromTarget {a : Dword} (ignore0 ignore1 : Bool) (ha : wordAligned a = true) :
    wordAligned (pcFromTarget ignore0 ignore1 a) = true := by
  rw [wordAligned_iff] at *
  have hset : (a ||| fieldMask 56 8).setWidth 2 = 0#2 := by
    rw [BitVec.setWidth_or, ha]
    decide
  have hclear : (a &&& ~~~fieldMask 56 8).setWidth 2 = 0#2 := by
    rw [BitVec.setWidth_and, ha]
    decide
  unfold pcFromTarget
  split
  · split
    · exact hset
    · exact ha
  · split
    · exact hclear
    · exact ha

theorem State.addressesAligned_iff (s : State) :
    s.addressesAligned = true ↔ wordAligned s.pc = true ∧ wordAligned s.bankEl1.vbar = true ∧
      wordAligned s.bankEl2.vbar = true ∧ wordAligned s.bankEl3.vbar = true ∧
      wordAligned s.cfg.entry.offsetSp0 = true ∧ wordAligned s.cfg.entry.offsetSpx = true ∧
      wordAligned s.cfg.entry.offsetLower = true := by
  simp only [State.addressesAligned, Bool.and_eq_true, and_assoc]

theorem wordAligned_handler {s : State} (hs : s.addressesAligned = true) (target : EL) :
    wordAligned ((s.bank target).vbar + vectorOffset s.cfg.entry s.pstate.el target s.pstate.sp) = true := by
  obtain ⟨-, h1, h2, h3, hsp0, hspx, hlower⟩ := s.addressesAligned_iff.1 hs
  refine wordAligned_add ?_ ?_
  · cases target <;> assumption
  · unfold vectorOffset
    split
    · split
      · exact hspx
      · exact hsp0
    · exact hlower

theorem StepCase.pc_aligned {s t : State} (h : StepCase s t) (hs : s.addressesAligned = true) :
    wordAligned t.pc = true := by
  have hnext : wordAligned (s.pc + 4) = true := wordAligned_add (s.addressesAligned_iff.1 hs).1 (by decide)
  cases h with
  | exception kind target cause iss h =>
    obtain ⟨-, -, -, -, -, -, -, -, -, -, ⟨-, -, -, ignore0, ignore1, hpc⟩, -⟩ :=
      s.takeException_takes kind target cause iss h.1
    rw [hpc]
    split
    · exact wordAligned_pcFromTarget _ _ (wordAligned_handler hs target)
    · exact wordAligned_handler hs target
  | load rt v => simpa using hnext
  | read r rt v => simpa using hnext
  | store offset v => exact hnext
  | write r v m => simpa using hnext

theorem StepCase.addressesAligned {s t : State} (h : StepCase s t) (hs : s.addressesAligned = true) :
    t.addressesAligned = true := by
  have hin := h.inputs
  obtain ⟨-, hrest⟩ := s.addressesAligned_iff.1 hs
  rw [← show t.bankEl1.vbar = s.bankEl1.vbar from congrArg Inputs.vbarEl1 hin,
    ← show t.bankEl2.vbar = s.bankEl2.vbar from congrArg Inputs.vbarEl2 hin,
    ← show t.bankEl3.vbar = s.bankEl3.vbar from congrArg Inputs.vbarEl3 hin,
    ← show t.cfg = s.cfg from congrArg Inputs.cfg hin] at hrest
  exact t.addressesAligned_iff.2 ⟨h.pc_aligned hs, hrest⟩

/-! ## The current level -/

/-- The level is implemented and can run A64 instructions (R24, log entry 63). -/
def State.Runs (s : State) (el : EL) : Prop := s.cfg.haveEL el = true ∧ s.runsA64At el = true

/-- Which levels can run depends on inputs only. -/
theorem State.Runs.of_inputs {s t : State} {el : EL} (h : s.Runs el) (hin : t.inputs = s.inputs) : t.Runs el := by
  unfold State.Runs State.runsA64At State.el2Enabled at *
  rwa [show t.cfg = s.cfg from congrArg Inputs.cfg hin, show t.scrEl3 = s.scrEl3 from congrArg Inputs.scrEl3 hin,
    show t.el2Aarch32 = s.el2Aarch32 from congrArg Inputs.el2Aarch32 hin]

theorem StepCase.level_runs {s t : State} (h : StepCase s t) (hs : s.Runs s.pstate.el) : s.Runs t.pstate.el := by
  cases h with
  | exception kind target cause iss h =>
    obtain ⟨hel, -⟩ := s.takeException_takes kind target cause iss h.1
    rw [hel]
    exact h.2 hs.1 hs.2
  | load rt v => simpa using hs
  | read r rt v => simpa using hs
  | store offset v => exact hs
  | write r v m => simpa using hs

/-! ## The invariant -/

/-- The clauses of the invariant that speak of inputs only: `NVMemBase` (D6), the ID constants (R25), the granules
(R450, R457), nERXGSR_EL1 (R227). -/
def State.inputsLegal (s : State) : Bool :=
  s.nvMemBase.extractLsb' 0 12 == 0 && idConstantsLegal s.cfg && granulesLegal s.cfg && s.erxgsrRes0Permitted

theorem State.inv_iff (s : State) :
    s.Inv ↔ s.mem.wf = true ∧ s.addressesAligned = true ∧ s.Runs s.pstate.el ∧ s.registersConstant = true ∧
      s.readsConsistent = true ∧ s.inputsLegal = true := by
  simp only [State.Inv, State.inv, State.inputsLegal, State.Runs, Bool.and_eq_true, and_assoc]

theorem State.inputsLegal_of_inputs {s t : State} (hin : t.inputs = s.inputs) : t.inputsLegal = s.inputsLegal := by
  unfold State.inputsLegal State.erxgsrRes0Permitted
  rw [show t.cfg = s.cfg from congrArg Inputs.cfg hin,
    show t.nvMemBase = s.nvMemBase from congrArg Inputs.nvMemBase hin,
    show t.controlled = s.controlled from congrArg Inputs.controlled hin]

/-- Settles O44, clause by clause over the shapes of a step. -/
theorem stepKeepsInvariant : Obligations.StepKeepsInvariant := by
  intro s t hinv h
  have hcase : StepCase s t := step_cases h
  have hin : t.inputs = s.inputs := hcase.inputs
  obtain ⟨hmem, haligned, hruns, hconstant, hconsistent, hlegal⟩ := s.inv_iff.1 hinv
  exact t.inv_iff.2
    ⟨hcase.mem_wf hmem, hcase.addressesAligned haligned, (hcase.level_runs hruns).of_inputs hin,
      hcase.keepsOwned.registersConstant (congrArg Inputs.cfg hin) hconstant,
      hcase.keepsOwned.readsConsistent hconsistent, (State.inputsLegal_of_inputs hin).trans hlegal⟩

end Sys2Proof.Machine
end

section
/-! SUPPORT. The value that a field of SCTLR_EL2 acts with, in terms of the bits of the register (R22, D3). -/

namespace Sys2Proof.Machine

/-! ## One-bit fields -/

@[simp] theorem presentIf_true (r : Reservation) : presentIf true r = .field := rfl
@[simp] theorem presentIf_false (r : Reservation) : presentIf false r = r := rfl

theorem presentIf_res0_ne_res1 (p : Bool) : presentIf p .res0 ≠ .res1 := by cases p <;> decide

/-- A field of one bit is 1 when its bit is. -/
theorem decide_fieldAt_one (v : Dword) (lo : Nat) : decide (fieldAt v lo 1 = 1) = v.getLsbD lo := by
  rw [fieldAt, BitVec.extractLsb'_toNat, Nat.shiftRight_eq_div_pow, ← BitVec.testBit_toNat,
    Nat.testBit_eq_decide_div_mod_eq]

/-- A bit that is a field under every condition acts as stored. -/
theorem sctlrBit_of_field {s : State} {f : SctlrField} (v : Dword)
    (hf : sctlrStatus s.cfg s.host2 s.host0 f = .field) (hw : f.width = 1) :
    sctlrBit s v f = v.getLsbD f.lo := by
  unfold sctlrBit sctlrValue
  rw [hf, hw]
  exact decide_fieldAt_one v f.lo

/-- A bit that is RES0 without its condition acts as stored under it and as 0 otherwise. -/
theorem sctlrBit_of_presentIf {s : State} {f : SctlrField} {p : Bool} (v : Dword)
    (hf : sctlrStatus s.cfg s.host2 s.host0 f = presentIf p .res0) (hw : f.width = 1) :
    sctlrBit s v f = (p && v.getLsbD f.lo) := by
  cases p with
  | true => exact sctlrBit_of_field v hf hw
  | false =>
    unfold sctlrBit sctlrValue
    rw [hf]
    rfl

theorem sctlrBit_ata (s : State) (v : Dword) : sctlrBit s v .ata = (s.has .MTE2 && v.getLsbD 43) :=
  sctlrBit_of_presentIf v rfl rfl
theorem sctlrBit_ata0 (s : State) (v : Dword) : sctlrBit s v .ata0 = (s.has .MTE2 && s.host2 && v.getLsbD 42) :=
  sctlrBit_of_presentIf v rfl rfl
theorem sctlrBit_enFPM (s : State) (v : Dword) : sctlrBit s v .enFPM = (s.has .FPMR && s.host0 && v.getLsbD 34) :=
  sctlrBit_of_presentIf v rfl rfl
theorem sctlrBit_mscEn (s : State) (v : Dword) : sctlrBit s v .mscEn = (s.has .MOPS && s.host2 && v.getLsbD 33) :=
  sctlrBit_of_presentIf v rfl rfl
theorem sctlrBit_iesb (s : State) (v : Dword) : sctlrBit s v .iesb = (s.has .IESB && v.getLsbD 21) :=
  sctlrBit_of_presentIf v rfl rfl
theorem sctlrBit_nAA (s : State) (v : Dword) : sctlrBit s v .nAA = (s.has .LSE2 && v.getLsbD 6) :=
  sctlrBit_of_presentIf v rfl rfl
theorem sctlrBit_wxn (s : State) (v : Dword) : sctlrBit s v .wxn = v.getLsbD 19 := sctlrBit_of_field v rfl rfl
theorem sctlrBit_m (s : State) (v : Dword) : sctlrBit s v .m = v.getLsbD 0 := sctlrBit_of_field v rfl rfl

/-! ## Hosts -/

/-- `ELIsInHost(EL0)` is `ELIsInHost(EL2)` with TGE 1. -/
theorem State.host0_eq (s : State) : s.host0 = (s.host2 && s.hcrEl2.tge) := rfl

theorem State.host2_of_el2Disabled {s : State} (h : s.el2Enabled = false) : s.host2 = false := by
  simp [State.host2, State.elIsInHost, h]

theorem State.host0_of_el2Disabled {s : State} (h : s.el2Enabled = false) : s.host0 = false := by
  simp [State.host0_eq, State.host2_of_el2Disabled h]

theorem State.hostTge_of_el2Disabled {s : State} (h : s.el2Enabled = false) : s.hostTge = false := by
  simp [State.hostTge, State.host2_of_el2Disabled h]

theorem State.hostEl0_of_el2Disabled {s : State} (h : s.el2Enabled = false) : s.hostEl0 = false := by
  simp [State.hostEl0, State.hostTge_of_el2Disabled h]

theorem State.underEl2Checks_of_el2Disabled {s : State} (h : s.el2Enabled = false) : s.underEl2Checks = false := by
  simp [State.underEl2Checks, h]

/-! ## Fields that act as 1 (R23) -/

/-- The fields of status RES1 outside a host on a little-endian implementation; with FEAT_ExS, EIS and EOS are none.
-/
def res1OutsideHost (exS : Bool) : List SctlrField :=
  if exS then [.lsmaoe, .nTLSMD, .span, .nTWE, .nTWI, .cp15ben, .sa0]
  else [.lsmaoe, .nTLSMD, .span, .eis, .nTWE, .nTWI, .eos, .cp15ben, .sa0]

/-- Field by field: RES0 under any condition is not RES1, and only EIS and EOS depend on FEAT_ExS. -/
theorem sctlrStatus_outsideHost_eq_res1 {c : Config} (hb : c.has .BigEnd = false) (hb0 : c.has .BigEndEL0 = false)
    (f : SctlrField) :
    (sctlrStatus c false false f == .res1) = (res1OutsideHost (c.has .ExS)).contains f := by
  cases hx : c.has .ExS <;> cases f <;>
    simp [sctlrStatus, res1OutsideHost, presentIf_res0_ne_res1, hx, hb, hb0]

/-- Settles O50: the mask of a list of fields that depends on FEAT_ExS only. -/
theorem sctlrRes1Masks : Obligations.SctlrRes1Masks := by
  intro c hb hb0
  simp only [sctlrStatus_outsideHost_eq_res1 hb hb0]
  cases c.has .ExS <;> decide

/-! ## The 16-byte rule (R67, R175) -/

/-- The rule looks at the bytes of one register, or of each of the two of LDIAPP and STILP. -/
theorem checkedRuns_any_crosses16 (o : OrderedAccess) (a : Dword) (n : Nat) :
    (o.checkedRuns a n).any (fun r => crosses16 r.1 r.2) =
      (crosses16 a n || o == .lrcpc3Pair && crosses16 (a + BitVec.ofNat 64 n) n) := by
  cases o <;> simp [OrderedAccess.checkedRuns]

/-- Settles O55: nAA is a field with FEAT_LSE2, and the listed bytes are those of `checkedRuns`. -/
theorem sixteenByteRule : Obligations.SixteenByteRule := by
  intro s v a o n draw hlse2 hlisted hen
  have hnaa : sctlrBit s v .nAA = v.getLsbD 6 := by rw [sctlrBit_nAA, hlse2, Bool.true_and]
  simp only [alignment16Fault, State.underEl2Checks, State.e2hTge, checkedRuns_any_crosses16, hnaa, hlse2, hlisted,
    hen, Bool.false_and, Bool.or_false, Bool.true_and, Bool.and_true]
  refine if_congr ?_ rfl rfl
  simp only [crosses16, Bool.and_eq_true, Bool.or_eq_true, beq_iff_eq, Bool.not_eq_true', decide_eq_true_eq,
    and_assoc]

/-! ## Effective values (R134, R135, R141, R142, R160, R162) -/

theorem effAta_eq (s : State) (v : Dword) :
    effAta s v = ((!s.cfg.haveEL3 || s.scrEl3.ata) && s.has .MTE2 && v.getLsbD 43) := by
  rw [effAta, sctlrBit_ata, Bool.and_assoc]

theorem effAta0_eq (s : State) (v : Dword) :
    effAta0 s v = ((!s.cfg.haveEL3 || s.scrEl3.ata) && s.has .MTE2 && s.host2 && v.getLsbD 42) := by
  simp only [effAta0, sctlrBit_ata0, Bool.and_assoc]

theorem effEnFpm_eq (s : State) (v : Dword) :
    effEnFpm s v = (!s.el2Enabled || (s.has .FPMR && s.host0 && v.getLsbD 34)) := by
  rw [effEnFpm, sctlrBit_enFPM]
  cases s.el2Enabled <;> rfl

theorem effMscen_eq (s : State) (v : Dword) : effMscen s v = (s.has .MOPS && (!s.host0 || v.getLsbD 33)) := by
  rw [effMscen, State.e2hTge, sctlrBit_mscEn, s.host0_eq]
  cases s.has .MOPS <;> cases s.host2 <;> cases s.hcrEl2.tge <;> rfl

/-- Outside Debug state. -/
theorem effIesb_eq {s : State} (h : s.dbgState.halted = false) (v : Dword) (n : Nat) :
    effIesb s v n = (s.has .DoubleFault2 && s.sctlr2El2Nmea || s.has .IESB && v.getLsbD 21) := by
  rw [effIesb, h, sctlrBit_iesb]
  cases s.has .DoubleFault2 && s.sctlr2El2Nmea <;> rfl

theorem effWxn_eq (s : State) (v : Dword) :
    effWxn s v = (v.getLsbD 0 && !s.tcr2El2Pie && v.getLsbD 19) := by
  rw [effWxn, sctlrBit_m, sctlrBit_wxn]
  cases v.getLsbD 0 <;> cases s.tcr2El2Pie <;> rfl

/-! ## No effect with EL2 not enabled (R21(b)) -/

theorem el0Control_of_el2Disabled {s : State} (h : s.el2Enabled = false) (v : Dword) (e : El0Event) :
    el0Control s v e = .proceed := by
  have hl := State.hostEl0_of_el2Disabled h
  cases e <;> simp [el0Control, trapTidcp, hl, h]

theorem nmiEnables_of_el2Disabled {s : State} (h : s.el2Enabled = false) (v : Dword) (f : NmiFeature) :
    nmiEnables s v f = false := by
  cases f <;> simp [nmiEnables, h]

/-- Settles O52: the effective values, then each group of functions with EL2 not enabled. -/
theorem sctlrEffectiveValues : Obligations.SctlrEffectiveValues := by
  intro s v
  refine ⟨effAta_eq s v, effAta0_eq s v, effEnFpm_eq s v, effMscen_eq s v, fun h n => effIesb_eq h v n, effWxn_eq s v,
    fun h => ?_⟩
  have h2 := State.host2_of_el2Disabled h
  have htge := State.hostTge_of_el2Disabled h
  have hl := State.hostEl0_of_el2Disabled h
  have hchecks := State.underEl2Checks_of_el2Disabled h
  refine ⟨?_, ?_, ?_, ?_, ?_, ?_, ?_, ?_⟩
  · simp [stage1EnabledEl2, stageOffInstructionAttributes, walkCacheability, dataCacheability,
      instructionCacheability, h]
  · simp [bigEndianEl2, bigEndianUnprivilegedAtEl2, walkBigEndian, bigEndianEl0, h, htge]
  · simp [memoryTaggingEl2, memoryTaggingEl0, tcfEl2, tcfEl0, readsUncheckedEl2, readsUncheckedEl0, tagCheckFault, h,
      htge]
  · simp [pauthEnabled, implicitBti, h, htge, State.host0_of_el2Disabled h]
  · simp [spAlignmentFault, alignmentFault, alignment16Fault, loadStoreMultipleFault, loadStoreMultipleUnordered,
      panFault, cmowFault, wxnFault, writeImpliesXn, h, h2, hl, hchecks]
  · simp [nmiEnables_of_el2Disabled h, maskedBySp, interruptMaskedBySp, h]
  · simp [entrySetsPan, entrySsbs, entryAllint, entrySynchronizes, returnSynchronizes, entrySyncsTagFaults,
      errorSyncAdded, h, htge]
  · simp [el0Control_of_el2Disabled h, waitTrapped, scxtnumAtEl0, dczidDzpRead, hl]

end Sys2Proof.Machine
end

section
/-! SUPPORT. What a fetch sees: the bytes of memory where no store has left older ones, and a word placed at the PC
(R61, R70, R79). -/

namespace Sys2Proof.Machine

/-! ## The bytes of a word -/

/-- The bytes of a word in memory order are the word (R61). -/
theorem wordOfBytes_byteOfWord (w : InstrWord) :
    wordOfBytes (byteOfWord w 0) (byteOfWord w 1) (byteOfWord w 2) (byteOfWord w 3) = w := by
  refine BitVec.eq_of_getLsbD_eq fun i hi => ?_
  simp only [wordOfBytes, byteOfWord, BitVec.getLsbD_append, BitVec.getLsbD_extractLsb']
  interval_cases i <;> simp

theorem decode_bytesOfWord (w : InstrWord) : decode (bytesOfWord w) = decodeWord w :=
  congrArg decodeWord (wordOfBytes_byteOfWord w)

theorem bytesOfWord_getElem (w : InstrWord) (k : Nat) (h : k < (bytesOfWord w).length) :
    (bytesOfWord w)[k] = byteOfWord w k := by
  have h' : k < 4 := h
  interval_cases k <;> rfl

/-! ## A fetch with no older bytes -/

theorem State.staleBytesAt_eq_nil {s : State} {a : Nat} (h : ∀ c ∈ s.staleFetch, c.1 ≠ a) : s.staleBytesAt a = [] := by
  rw [State.staleBytesAt, List.filter_eq_nil_iff.2 fun c hc => by simpa using h c hc, List.map_nil]

/-- Where no store has left an older byte, the fetch sees memory. -/
theorem State.fetchByte_of_not_stale {s : State} {k : Nat} (h : ∀ c ∈ s.staleFetch, c.1 ≠ s.fetchAddress k) :
    s.fetchByte k = s.byteAt (s.fetchAddress k) := by
  rw [State.fetchByte, State.staleBytesAt_eq_nil h, chooseAmong_nil]

/-- The first byte of the instruction is at the PC itself. -/
theorem State.fetchAddress_zero (s : State) : s.fetchAddress 0 = s.pc.toNat :=
  congrArg BitVec.toNat (BitVec.add_zero s.pc)

/-! ## The step -/

theorem State.pcAligned_iff (s : State) : s.pcAligned = true ↔ s.pc.extractLsb' 0 2 = 0 := beq_iff_eq

/-- An aligned step runs what the fetched bytes decode to. -/
theorem step_of_aligned {s : State} (h : s.pc.extractLsb' 0 2 = 0) : step s = run (decode s.fetchBytes) s :=
  if_pos (s.pcAligned_iff.2 h)

/-- Settles O10: the alignment test is the first thing a step makes. -/
theorem misalignedPcFaults : Obligations.MisalignedPcFaults :=
  fun s h => if_neg fun ha => h (s.pcAligned_iff.1 ha)

/-- Settles O8: each fetched byte is the byte of memory. -/
theorem stepRunsDecodedInstruction : Obligations.StepRunsDecodedInstruction := by
  intro s i ha hstale hdecode
  have hbyte : ∀ k < 4, s.fetchByte k = s.byteAt (s.fetchAddress k) := fun k hk =>
    State.fetchByte_of_not_stale fun c hc => hstale c hc k hk
  have hbytes : s.fetchBytes = [s.byteAt s.pc.toNat, s.byteAt (s.pc + 1).toNat, s.byteAt (s.pc + 2).toNat,
      s.byteAt (s.pc + 3).toNat] := by
    rw [State.fetchBytes, hbyte 0 (by decide), hbyte 1 (by decide), hbyte 2 (by decide), hbyte 3 (by decide),
      s.fetchAddress_zero]
    rfl
  rw [step_of_aligned ha, hbytes, hdecode]
  rfl

/-! ## A word placed at the PC -/

@[simp] theorem State.placeWord_mem (s : State) (w : InstrWord) :
    (s.placeWord w).mem = s.mem.writeBytes (byteAddresses s.pc 4) (bytesOfWord w) := rfl

@[simp] theorem State.placeWord_staleFetch (s : State) (w : InstrWord) :
    (s.placeWord w).staleFetch = s.staleFetch.filter fun c => !(byteAddresses s.pc 4).contains c.1 := rfl

theorem State.withFetchWord_toNat (s : State) (w : InstrWord) : s.withFetchWord 32 w.toNat = s.placeWord w := by
  rw [State.withFetchWord, Nat.mod_eq_of_lt w.isLt, BitVec.ofNat_toNat, BitVec.setWidth_eq]

/-- The word stands in memory at the PC. -/
theorem State.placeWord_byteAt {s : State} (w : InstrWord) (hm : s.mem.wf = true) {k : Nat} (hk : k < 4) :
    (s.placeWord w).byteAt (s.fetchAddress k) = byteOfWord w k := by
  rw [State.byteAt, State.placeWord_mem]
  have hlen := byteAddresses_length s.pc 4
  have h := Memory.read_writeBytes_at s.mem (byteAddresses s.pc 4) (bytesOfWord w) hm
    (fun _ ha => byteAddresses_lt _ _ _ ha) (byteAddresses_nodup s.pc 4 (by decide)) hlen k (hlen ▸ hk)
  rwa [byteAddresses_getElem, bytesOfWord_getElem] at h

/-- No older byte is left for the fetch of a placed word. -/
theorem State.placeWord_not_stale (s : State) (w : InstrWord) {k : Nat} (hk : k < 4) :
    ∀ c ∈ (s.placeWord w).staleFetch, c.1 ≠ s.fetchAddress k := by
  intro c hc hck
  have hmem : c.1 ∈ byteAddresses s.pc 4 := List.mem_map.2 ⟨k, List.mem_range.2 hk, hck.symm⟩
  simp [hmem] at hc

theorem State.placeWord_fetchBytes {s : State} (w : InstrWord) (hm : s.mem.wf = true) :
    (s.placeWord w).fetchBytes = bytesOfWord w := by
  have hbyte : ∀ k < 4, (s.placeWord w).fetchByte k = byteOfWord w k := fun k hk =>
    (State.fetchByte_of_not_stale (s.placeWord_not_stale w hk)).trans (State.placeWord_byteAt w hm hk)
  rw [State.fetchBytes, hbyte 0 (by decide), hbyte 1 (by decide), hbyte 2 (by decide), hbyte 3 (by decide),
    bytesOfWord]

/-- Settles O9: the fetch returns the bytes of the placed word, which decode to it. -/
theorem stepRunsPlacedWord : Obligations.StepRunsPlacedWord := by
  intro s w hm ha
  rw [s.withFetchWord_toNat, step_of_aligned (s := s.placeWord w) ha, State.placeWord_fetchBytes w hm,
    decode_bytesOfWord]

end Sys2Proof.Machine
end

section
/-! SUPPORT. NVMem byte by byte: what a read finds, in which byte order, and a read of what a store has left (R65, R75,
D6). -/

namespace Sys2Proof.Machine

/-! ## A double word and its bytes -/

/-- A double word is known by its eight bytes. -/
theorem dword_ext_bytes {v w : Dword} (h : ∀ i < 8, v.extractLsb' (8 * i) 8 = w.extractLsb' (8 * i) 8) : v = w := by
  refine BitVec.eq_of_getLsbD_eq fun j hj => ?_
  have hbit := congrArg (BitVec.getLsbD · (j % 8)) (h (j / 8) (by omega))
  simpa [Nat.mod_lt, Nat.div_add_mod] using hbit

/-- Byte `i` of a little-endian value is the `i`-th of its bytes (R65). -/
theorem littleEndian_extract {bs : List Byte} {i : Nat} (hi : i < bs.length) (h8 : i < 8) :
    (littleEndian bs).extractLsb' (8 * i) 8 = bs[i] := by
  induction bs generalizing i with
  | nil => simp at hi
  | cons b bs ih =>
    refine BitVec.eq_of_getLsbD_eq fun j hj => ?_
    simp only [littleEndian, BitVec.getLsbD_extractLsb', BitVec.getLsbD_or, BitVec.getLsbD_setWidth,
      BitVec.getLsbD_shiftLeft, hj, show 8 * i + j < 64 by omega, decide_true, Bool.true_and]
    cases i with
    | zero => simp [hj]
    | succ i =>
      have hbit := congrArg (BitVec.getLsbD · j) (ih (i := i) (by simpa using hi) (by omega))
      simp only [BitVec.getLsbD_extractLsb', hj, decide_true, Bool.true_and] at hbit
      rw [BitVec.getLsbD_of_ge b _ (by omega), show 8 * (i + 1) + j - 8 = 8 * i + j by omega, hbit]
      simp [show ¬8 * (i + 1) + j < 8 by omega]

/-- Byte `i` of memory in either byte order (R65, D6). -/
theorem valueOfBytes_extract {bigEndian : Bool} {bs : List Byte} (hl : bs.length = 8) {i : Nat} (hi : i < bs.length) :
    (valueOfBytes bigEndian bs).extractLsb' (8 * (if bigEndian then 7 - i else i)) 8 = bs[i] := by
  cases bigEndian with
  | false => exact littleEndian_extract hi (by omega)
  | true =>
    have h := littleEndian_extract (bs := bs.reverse) (i := 7 - i) (by simp; omega) (by omega)
    simpa [valueOfBytes, List.getElem_reverse, hl, show 7 - (7 - i) = i by omega] using h

/-- A double word is known by its bytes in either byte order. -/
theorem dword_ext_bytes_ordered (bigEndian : Bool) {v w : Dword}
    (h : ∀ i < 8, v.extractLsb' (8 * (if bigEndian then 7 - i else i)) 8 =
      w.extractLsb' (8 * (if bigEndian then 7 - i else i)) 8) : v = w := by
  refine dword_ext_bytes fun i hi => ?_
  cases bigEndian with
  | false => exact h i hi
  | true => simpa [show 7 - (7 - i) = i by omega] using h (7 - i) (by omega)

/-! ## A read of NVMem -/

/-- Each byte of the value is the byte of memory at its address. -/
theorem State.nvMemRead_extract (s : State) (offset : Dword) {i : Nat} (hi : i < 8) :
    (s.nvMemRead offset).extractLsb' (8 * (if s.nvMemBigEndian then 7 - i else i)) 8 =
      s.byteAt (s.nvMemAddress offset + BitVec.ofNat 64 i).toNat := by
  have hl : ((byteAddresses (s.nvMemAddress offset) 8).map s.byteAt).length = 8 := by
    rw [List.length_map, byteAddresses_length]
  rw [State.nvMemRead, valueOfBytes_extract hl (hl ▸ hi), List.getElem_map, byteAddresses_getElem]

/-- EE is a field with FEAT_MixedEnd, and a constant that FEAT_BigEnd gives otherwise (R156). -/
theorem sctlrBit_ee (s : State) (v : Dword) :
    sctlrBit s v .ee = if s.has .MixedEnd then v.getLsbD 25 else s.has .BigEnd := by
  have hstatus : sctlrStatus s.cfg s.host2 s.host0 .ee =
      presentIf (s.has .MixedEnd) (if s.has .BigEnd then .res1 else .res0) := rfl
  cases hmixed : s.has .MixedEnd with
  | true =>
    rw [hmixed] at hstatus
    exact sctlrBit_of_field v hstatus rfl
  | false =>
    cases hbig : s.has .BigEnd <;> simp [sctlrBit, sctlrValue, hstatus, hmixed, hbig, SctlrField.width]

theorem State.nvMemBigEndian_of_settled {s : State} (hu : s.sctlrEl2.unsynced = []) (hs : s.sctlrEl2.stale = []) :
    s.nvMemBigEndian = if s.has .MixedEnd then s.sctlrEl2.val.getLsbD 25 else s.has .BigEnd := by
  rw [State.nvMemBigEndian, State.sctlrView, CtlReg.view_of_settled _ _ _ hu hs, eeBigEndian, sctlrBit_ee]

/-- Settles O33: `State.nvMemRead_extract`, and the value that EE acts with. -/
theorem nvMemByteOrder : Obligations.NvMemByteOrder :=
  fun s offset => ⟨fun _ hi => s.nvMemRead_extract offset hi, State.nvMemBigEndian_of_settled⟩

/-! ## A read of what was stored -/

/-- With nothing older in force the byte order depends on the configuration and on SCTLR_EL2. -/
theorem State.nvMemBigEndian_congr {s t : State} (hcfg : t.cfg = s.cfg) (hsctlr : t.sctlrEl2 = s.sctlrEl2)
    (hu : s.sctlrEl2.unsynced = []) (hs : s.sctlrEl2.stale = []) : t.nvMemBigEndian = s.nvMemBigEndian := by
  rw [State.nvMemBigEndian_of_settled hu hs, State.nvMemBigEndian_of_settled (hsctlr ▸ hu) (hsctlr ▸ hs), hsctlr,
    State.has, State.has, hcfg]
  rfl

/-- A state that holds the bytes of `v` in its own byte order reads it. -/
theorem State.nvMemRead_of_stores {s t : State} {offset v : Dword} (hbase : t.nvMemBase = s.nvMemBase)
    (horder : t.nvMemBigEndian = s.nvMemBigEndian)
    (hstores : StoresDword s t (s.nvMemAddress offset) s.nvMemBigEndian v) : t.nvMemRead offset = v := by
  obtain ⟨hbytes, -⟩ := hstores
  refine dword_ext_bytes_ordered s.nvMemBigEndian fun i hi => ?_
  have hread := t.nvMemRead_extract offset hi
  rw [horder, State.nvMemAddress, hbase] at hread
  exact hread.trans (hbytes i hi)

/-- A read of NVMem after a store at the same offset, with nothing older of SCTLR_EL2 in force, gives the value back. -/
theorem State.nvMemRead_nvMemWrite_retire {s : State} (offset v : Dword) (hm : s.mem.wf = true)
    (hu : s.sctlrEl2.unsynced = []) (hs : s.sctlrEl2.stale = []) :
    (s.nvMemWrite offset v).retire.nvMemRead offset = v :=
  State.nvMemRead_of_stores (by simp [State.nvMemWrite])
    (State.nvMemBigEndian_congr (by simp [State.nvMemWrite]) (by simp [State.nvMemWrite]) hu hs)
    (s.nvMemWrite_retire_stores offset v hm)

/-! ## TCR_EL1 in NVMem -/

/-- At EL1 the accesses under the name TCR_EL1 are redirected to NVMem, by NVx 111 with no trap enabled (R479, R480),
and do not fault there. -/
structure State.TcrEl1InNvMem (s : State) : Prop where
  has_aa64 : s.has .AA64 = true
  level : s.pstate.el = .el1
  nvx : s.nvx = 7
  tvm : s.hcrEl2.tvm = false
  trvm : s.hcrEl2.trvm = false
  readTrap : s.fgt.rTcrEl1 = false
  writeTrap : s.fgt.wTcrEl1 = false
  faults : s.nvMemFaults = ⟨false, false⟩

section
variable {s : State}

theorem State.TcrEl1InNvMem.exec_msr (h : s.TcrEl1InNvMem) (rt : Nat) :
    exec (.msrTcrEl1 rt) s = .next (s.nvMemWrite 0x120 (s.readX rt)).retire := by
  have hcourse : accessMsrTcrEl1 s = .nvMem 0x120 := by
    simp [accessMsrTcrEl1, tcrAccessEl1, h.has_aa64, h.level, h.nvx, h.tvm, h.writeTrap]
  refine (congrArg (performWrite (.msrTcrEl1 rt) · s) hcourse).trans ?_
  simp [performWrite, h.faults, Instr.rt]

theorem State.TcrEl1InNvMem.exec_mrs (h : s.TcrEl1InNvMem) (rt : Nat) :
    exec (.mrsTcrEl1 rt) s = .next (s.writeX rt (s.nvMemRead 0x120)).retire := by
  have hcourse : accessMrsTcrEl1 s = .nvMem 0x120 := by
    simp [accessMrsTcrEl1, tcrAccessEl1, h.has_aa64, h.level, h.nvx, h.trvm, h.readTrap]
  refine (congrArg (performRead (.mrsTcrEl1 rt) · s) hcourse).trans ?_
  simp [performRead, h.faults, Instr.rt]

/-- A store to NVMem leaves alone all that the redirection depends on. -/
theorem State.TcrEl1InNvMem.nvMemWrite_retire (h : s.TcrEl1InNvMem) (offset v : Dword) :
    (s.nvMemWrite offset v).retire.TcrEl1InNvMem where
  has_aa64 := by simpa [State.nvMemWrite, State.has] using h.has_aa64
  level := by simpa [State.nvMemWrite] using h.level
  nvx := by simpa [State.nvMemWrite, State.nvx, State.nestedVirt, State.el2Enabled, State.has] using h.nvx
  tvm := by simpa [State.nvMemWrite] using h.tvm
  trvm := by simpa [State.nvMemWrite] using h.trvm
  readTrap := by simpa [State.nvMemWrite] using h.readTrap
  writeTrap := by simpa [State.nvMemWrite] using h.writeTrap
  faults := by simpa [State.nvMemWrite] using h.faults

end

/-- Settles O34: the MSR stores to NVMem and leaves the MRS redirected, and the MRS reads the same eight bytes back. -/
theorem nvMemWriteThenRead : Obligations.NvMemWriteThenRead := by
  intro s rt rt' hm hu hs hfaults haa64 hlevel hnvx htvm htrvm hread hwrite
  have hin : s.TcrEl1InNvMem := ⟨haa64, hlevel, hnvx, htvm, htrvm, hread, hwrite, hfaults⟩
  refine ⟨_, _, hin.exec_msr rt, (hin.nvMemWrite_retire _ _).exec_mrs rt', ?_, ?_⟩
  · rw [State.nvMemRead_nvMemWrite_retire _ _ hm hu hs]
    exact State.writeX_retire_readsInto _ rt' _
  · simp [State.nvMemWrite]

end Sys2Proof.Machine
end

section
/-! SUPPORT. What a write of an owned register that had nothing older in force leaves in force (R72, R561, R563). -/

namespace Sys2Proof.Machine

/-! ## A write to a quiet register -/

theorem CtlReg.quiet_iff (r : CtlReg) : r.quiet = true ↔ r.tail = [] ∧ r.unsynced = [] ∧ r.stale = [] := by
  simp [CtlReg.quiet, and_assoc]

/-- A write mask of 0 keeps no old bit. -/
theorem maskedWrite_zero_mask (v old : Dword) : maskedWrite v old 0 = v := by
  show (v &&& ~~~0#64) ||| (old &&& 0#64) = v
  rw [BitVec.and_zero, BitVec.or_zero, BitVec.not_zero, BitVec.and_allOnes]

theorem ConstantBits.maskOnStorage_zero (k : ConstantBits) : k.maskOnStorage 0 = 0 := BitVec.zero_and

section
variable {r r' : CtlReg} {cacheable hazard : Bool} {name : AccessName} {value mask : Dword}

/-- With no access in flight every place for the write is the same one: in order, it is in the stored value, otherwise
it is the only access in flight. -/
theorem WrittenInOrder.of_tail_nil (h : WrittenInOrder r r' cacheable hazard name value mask) (ht : r.tail = []) :
    r'.base = maskedWrite value r.val mask ∧ r'.tail = [] ∨
      r'.base = r.val ∧ r'.tail = [.wrote name value mask] := by
  have hval : r.val = r.base := by simp [CtlReg.val, replay, ht]
  obtain ⟨horder, -, -⟩ := h
  split at horder
  · exact .inl horder
  · obtain ⟨hbase, k, -, -, htail, -⟩ := horder
    exact .inr ⟨hbase.trans hval.symm, by simpa [ht] using htail⟩

theorem WrittenInOrder.val_of_tail_nil (h : WrittenInOrder r r' cacheable hazard name value mask)
    (ht : r.tail = []) : r'.val = maskedWrite value r.val mask := by
  rcases h.of_tail_nil ht with ⟨hbase, htail⟩ | ⟨hbase, htail⟩ <;>
    simp [CtlReg.val, replay, htail, NamedAccess.apply, hbase]

/-- The register passes through the old value only. -/
theorem WrittenInOrder.passedValues_of_tail_nil (h : WrittenInOrder r r' cacheable hazard name value mask)
    (ht : r.tail = []) : ∀ v ∈ passedValues r'.base r'.tail, v = r.val := by
  rcases h.of_tail_nil ht with ⟨hbase, htail⟩ | ⟨hbase, htail⟩ <;> simp [passedValues, htail, hbase]

theorem WrittenInOrder.unsynced_of_quiet (h : WrittenInOrder r r' cacheable hazard name value mask)
    (hq : r.quiet = true) : ∀ v ∈ r'.unsynced, v = r.val := by
  obtain ⟨ht, hu, -⟩ := r.quiet_iff.1 hq
  have hpassed := h.passedValues_of_tail_nil ht
  obtain ⟨-, hunsynced, -⟩ := h
  intro v hv
  rcases (hunsynced v).1 hv with hval | hthrough | hold
  · exact hval
  · exact hpassed v hthrough
  · simp [hu] at hold

theorem WrittenInOrder.stale_of_quiet (h : WrittenInOrder r r' cacheable hazard name value mask)
    (hq : r.quiet = true) : ∀ v ∈ r'.stale, v = r.val := by
  obtain ⟨ht, -, hs⟩ := r.quiet_iff.1 hq
  have hpassed := h.passedValues_of_tail_nil ht
  obtain ⟨-, -, hstale⟩ := h
  intro v hv
  rcases (hstale v).1 hv with ⟨-, hval | hthrough⟩ | hold
  · exact hval
  · exact hpassed v hthrough
  · simp [hs] at hold

/-- The only older value that a rule may read after the write is the old one. -/
theorem WrittenInOrder.olderFor_of_quiet (h : WrittenInOrder r r' cacheable hazard name value mask)
    (hq : r.quiet = true) (f : ViewField) : ∀ v ∈ r'.olderFor f, v = r.val := by
  intro v hv
  rcases List.mem_append.1 hv with hv | hv
  · exact h.unsynced_of_quiet hq v hv
  · exact h.stale_of_quiet hq v (List.mem_of_mem_filter hv)

/-- After a context synchronization event nothing older is left for a field that no TLB may hold. -/
theorem WrittenInOrder.olderFor_synchronize (h : WrittenInOrder r r' cacheable hazard name value mask)
    (hq : r.quiet = true) {f : ViewField} (hf : f.cached (fieldAt r.val f.lo f.width) = false) :
    r'.synchronize.olderFor f = [] := by
  simp only [CtlReg.olderFor, CtlReg.synchronize_unsynced, CtlReg.synchronize_stale, List.nil_append,
    List.filter_eq_nil_iff]
  intro v hv
  rw [h.stale_of_quiet hq v hv, hf]
  exact Bool.false_ne_true

/-- An unmasked write to a quiet register takes effect field by field. -/
theorem WrittenInOrder.takesEffect (h : WrittenInOrder r r' cacheable hazard name value 0) (hq : r.quiet = true)
    {fields : List ViewField} (hp : fields.Pairwise ViewField.Apart) : TakesEffect r r' fields value := by
  have hval : r'.val = value := by
    obtain ⟨ht, -, -⟩ := r.quiet_iff.1 hq
    rw [h.val_of_tail_nil ht, maskedWrite_zero_mask]
  refine fun n => ⟨fun f hf => ?_, fun f hf hcached => ?_, ?_⟩
  · obtain ⟨v, hv, heq⟩ := r'.view_field fields n hp f hf
    rcases List.mem_cons.1 hv with rfl | hold
    · exact .inr (hval ▸ heq)
    · exact .inl (h.olderFor_of_quiet hq f v hold ▸ heq)
  · rw [CtlReg.view_field_of_settled _ fields n hp f hf (h.olderFor_synchronize hq hcached),
      CtlReg.synchronize_val, hval]
  · rw [CtlReg.view_of_settled _ fields n rfl rfl, CtlReg.invalidateTlb_val, CtlReg.synchronize_val, hval]

end

/-! ## The direct writes at EL3 -/

theorem exec_msrSctlrEl2_el3 {s : State} (rt : Nat) (ha : s.has .AA64 = true) (hl : s.pstate.el = .el3) :
    exec (.msrSctlrEl2 rt) s = .next (s.writeReg (.sctlrEl2 .first) (s.readX rt) 0).retire := by
  have hcourse : accessMsrSctlrEl2 s = .register (.sctlrEl2 .first) 0 := by simp [accessMsrSctlrEl2, ha, hl]
  exact congrArg (performWrite (.msrSctlrEl2 rt) · s) hcourse

theorem exec_msrHfgrtr2El2_el3 {s : State} (rt : Nat) (ha : s.has .AA64 = true) (hf : s.has .FGT2 = true)
    (hl : s.pstate.el = .el3) :
    exec (.msrHfgrtr2El2 rt) s = .next (s.writeReg .hfgrtr2El2 (s.readX rt) 0).retire := by
  have hcourse : accessHfgrtr2El2 s = .register .hfgrtr2El2 0 := by simp [accessHfgrtr2El2, ha, hf, hl]
  exact congrArg (performWrite (.msrHfgrtr2El2 rt) · s) hcourse

theorem exec_msrTcr2El1_el3 {s : State} (rt : Nat) (ha : s.has .AA64 = true) (hf : s.has .TCR2 = true)
    (hl : s.pstate.el = .el3) :
    exec (.msrTcr2El1 rt) s = .next (s.writeReg (.tcr2El1 .first) (s.readX rt) 0).retire := by
  have hcourse : accessMsrTcr2El1 s = .register (.tcr2El1 .first) 0 := by
    simp [accessMsrTcr2El1, tcr2Absent, ha, hf, hl]
  exact congrArg (performWrite (.msrTcr2El1 rt) · s) hcourse

theorem exec_msrTcrEl1_el3 {s : State} (rt : Nat) (ha : s.has .AA64 = true) (hl : s.pstate.el = .el3) :
    exec (.msrTcrEl1 rt) s = .next (s.writeReg (.tcrEl1 .first) (s.readX rt) 0).retire := by
  have hcourse : accessMsrTcrEl1 s = .register (.tcrEl1 .first) 0 := by simp [accessMsrTcrEl1, ha, hl]
  exact congrArg (performWrite (.msrTcrEl1 rt) · s) hcourse

/-- Settles O60: at EL3 each of the four writes is unmasked, and `WrittenInOrder.takesEffect` says what is in force
after it. -/
theorem writeTakesEffect : Obligations.WriteTakesEffect := by
  intro s t rt ha hl hel2
  refine ⟨fun hq ht => ?_, fun hf hq ht => ?_, fun hf hq ht => ?_, fun hq ht => ?_⟩
  · obtain rfl := Host.Outcome.next.inj ((exec_msrSctlrEl2_el3 rt ha hl).symm.trans ht)
    have hw := s.writeReg_sctlrEl2 .first rt 0
    simp only [WritesSctlrEl2, hel2, if_true, ConstantBits.maskOnStorage_zero] at hw
    exact hw.1.takesEffect hq (sctlrViewFields_apart s.cfg)
  · obtain rfl := Host.Outcome.next.inj ((exec_msrHfgrtr2El2_el3 rt ha hf hl).symm.trans ht)
    exact (s.writeReg_hfgrtr2El2 (s.readX rt) hel2).1.takesEffect hq hfgrtr2ViewFields_apart
  · obtain rfl := Host.Outcome.next.inj ((exec_msrTcr2El1_el3 rt ha hf hl).symm.trans ht)
    have hw := s.writeReg_tcr2El1 .first rt 0
    simp only [WritesTcr2El1, ConstantBits.maskOnStorage_zero] at hw
    exact hw.1.takesEffect hq tcr2ViewFields_apart
  · obtain rfl := Host.Outcome.next.inj ((exec_msrTcrEl1_el3 rt ha hl).symm.trans ht)
    have hw := s.writeReg_tcrEl1 .first rt 0
    simp only [WritesTcrEl1, ConstantBits.maskOnStorage_zero] at hw
    exact hw.1.takesEffect hq tcrViewFields_apart

end Sys2Proof.Machine
end

section
/-! SUPPORT. The opcode map and the encoder: a word is its match value and its register number, the match values are
those that the formula of R92 builds, and the decoder and the encoder invert each other (R92, R93, R95). -/

namespace Sys2Proof.Machine

/-! ## The match value of a word (R93) -/

/-- The match value holds the bits above `Rt`. -/
theorem wordKey_getLsbD (w : InstrWord) (i : Nat) : (wordKey w).getLsbD i = (decide (5 ≤ i) && w.getLsbD i) := by
  have hmask : 0xFFFFFFE0#32 = BitVec.allOnes 32 <<< 5 := by decide
  rw [wordKey, hmask, BitVec.getLsbD_and, BitVec.getLsbD_shiftLeft, BitVec.getLsbD_allOnes]
  by_cases hi : i < 32
  · by_cases h5 : i < 5
    · simp [h5]
    · simp [hi, h5, not_lt.1 h5, show i - 5 < 32 by omega]
  · simp [BitVec.getLsbD_of_ge w i (not_lt.1 hi)]

/-- A field above `Rt` is that of the match value. -/
theorem extractLsb'_wordKey (w : InstrWord) {lo : Nat} (n : Nat) (h : 5 ≤ lo) :
    (wordKey w).extractLsb' lo n = w.extractLsb' lo n := by
  refine BitVec.eq_of_getLsbD_eq fun i _ => ?_
  simp only [BitVec.getLsbD_extractLsb', wordKey_getLsbD, show 5 ≤ lo + i by omega, decide_true, Bool.true_and]

@[simp] theorem wordCoordinate_wordKey (w : InstrWord) : wordCoordinate (wordKey w) = wordCoordinate w := by
  simp only [wordCoordinate, extractLsb'_wordKey w _ (show 5 ≤ 16 by decide),
    extractLsb'_wordKey w _ (show 5 ≤ 12 by decide), extractLsb'_wordKey w _ (show 5 ≤ 8 by decide),
    extractLsb'_wordKey w _ (show 5 ≤ 5 by decide)]

@[simp] theorem wordO0_wordKey (w : InstrWord) : wordO0 (wordKey w) = wordO0 w := wordKey_getLsbD w 19

@[simp] theorem isSysMove_wordKey (w : InstrWord) : isSysMove (wordKey w) = isSysMove w := by
  simp only [isSysMove, wordKey, BitVec.and_assoc]
  rfl

theorem isSysMove_iff (w : InstrWord) : isSysMove w = true ↔ w &&& 0xFFD00000#32 = 0xD5100000#32 := decide_eq_true_iff

theorem wordRt_lt (w : InstrWord) : wordRt w < 32 := (w.extractLsb' 0 5).isLt

/-- A word is its match value with its register number in the low five bits. -/
theorem wordKey_or_wordRt (w : InstrWord) : wordKey w ||| BitVec.ofNat 32 (wordRt w) = w := by
  refine BitVec.eq_of_getLsbD_eq fun i hi => ?_
  rw [BitVec.getLsbD_or, wordKey_getLsbD, BitVec.getLsbD_ofNat, wordRt, BitVec.testBit_toNat,
    BitVec.getLsbD_extractLsb', Nat.zero_add]
  by_cases h5 : i < 5
  · simp [hi, h5]
  · simp [h5, not_lt.1 h5]

theorem word_ext {v w : InstrWord} (hkey : wordKey v = wordKey w) (hrt : wordRt v = wordRt w) : v = w := by
  rw [← wordKey_or_wordRt v, hkey, hrt, wordKey_or_wordRt]

/-! ## The match value of an instruction -/

/-- The match value that R92 gives a direction and a coordinate: the word for register number 0. -/
theorem wordKey_sysMoveWord (isRead : Bool) (c : Coordinate) (rt : BitVec 5) :
    wordKey (sysMoveWord isRead c rt) = sysMoveWord isRead c 0 := by
  refine BitVec.eq_of_getLsbD_eq fun i _ => ?_
  simp only [wordKey_getLsbD, sysMoveWord, BitVec.getLsbD_append]
  by_cases h5 : i < 5
  · simp [h5]
  · simp [h5, not_lt.1 h5]

/-- `op0` is 3 in every word of R92. -/
theorem sysMoveWord_o0 (isRead : Bool) (c : Coordinate) (rt : BitVec 5) : wordO0 (sysMoveWord isRead c rt) = true := by
  simp only [wordO0, sysMoveWord, BitVec.getLsbD_append]
  simp

theorem wordKey_encode (i : Instr) : wordKey (encode i) = sysMoveWord i.isRead i.coordinate 0 :=
  wordKey_sysMoveWord _ _ _

theorem wordRt_encode {i : Instr} (h : i.WellFormed) : wordRt (encode i) = i.rt := by
  obtain ⟨-, -, -, hrt⟩ := Laws.encodeFixed_all i
  rw [hrt, Nat.mod_eq_of_lt (i.wellFormed_iff.1 h)]

/-! ## The rows of the opcode map -/

theorem opTable_keys_nodup : (opTable.map OpRow.key).Nodup := by decide

/-- The match column of R93 is the one that R92 builds. -/
theorem sysMoveWord_make_zero :
    ∀ row ∈ opTable, sysMoveWord (row.make 0).isRead (row.make 0).coordinate 0 = row.key := by decide

/-- A row makes the instruction of one direction and coordinate for any register number. -/
theorem opRow_make {row : OpRow} (h : row ∈ opTable) (n : Nat) :
    (row.make n).rt = n ∧ (row.make n).isRead = (row.make 0).isRead ∧
      (row.make n).coordinate = (row.make 0).coordinate := by
  fin_cases h <;> exact ⟨rfl, rfl, rfl⟩

theorem wordKey_encode_make {row : OpRow} (h : row ∈ opTable) (n : Nat) :
    wordKey (encode (row.make n)) = row.key := by
  obtain ⟨-, hread, hcoord⟩ := opRow_make h n
  rw [wordKey_encode, hread, hcoord, sysMoveWord_make_zero row h]

theorem wellFormed_make {row : OpRow} (h : row ∈ opTable) {n : Nat} (hn : n < 32) : (row.make n).WellFormed := by
  obtain ⟨hrt, -⟩ := opRow_make h n
  rwa [Instr.wellFormed_iff, hrt]

theorem wordRt_encode_make {row : OpRow} (h : row ∈ opTable) {n : Nat} (hn : n < 32) :
    wordRt (encode (row.make n)) = n := by
  obtain ⟨hrt, -⟩ := opRow_make h n
  rw [wordRt_encode (wellFormed_make h hn), hrt]

/-- The word of a row's instruction (R92, R93). -/
theorem encode_make {row : OpRow} (h : row ∈ opTable) {n : Nat} (hn : n < 32) :
    encode (row.make n) = row.key ||| BitVec.ofNat 32 n := by
  rw [← wordKey_or_wordRt (encode (row.make n)), wordKey_encode_make h, wordRt_encode_make h hn]

/-- Every instruction has a row. -/
theorem exists_opRow (i : Instr) : ∃ row ∈ opTable, row.make i.rt = i := by
  cases i <;> simp [opTable, Instr.rt]

/-! ## The decoder on accessors -/

theorem of_opTable_find {w : InstrWord} {row : OpRow}
    (h : opTable.find? (fun r => decide (r.key = wordKey w)) = some row) : row ∈ opTable ∧ row.key = wordKey w :=
  ⟨List.mem_of_find?_eq_some h, by simpa only [decide_eq_true_eq] using List.find?_some h⟩

/-- The search of the map finds the one row with the match value. -/
theorem opTable_find_of_key {w : InstrWord} {row : OpRow} (hrow : row ∈ opTable) (hkey : row.key = wordKey w) :
    opTable.find? (fun r => decide (r.key = wordKey w)) = some row := by
  have hsome : (opTable.find? fun r => decide (r.key = wordKey w)).isSome = true :=
    List.find?_isSome.2 ⟨row, hrow, decide_eq_true hkey⟩
  obtain ⟨found, hfind⟩ := Option.isSome_iff_exists.1 hsome
  obtain ⟨hfound, hfoundKey⟩ := of_opTable_find hfind
  rw [hfind, List.inj_on_of_nodup_map opTable_keys_nodup hfound hrow (hfoundKey.trans hkey.symm)]

theorem opTable_find_eq_none {w : InstrWord} (h : wordKey w ∉ opTable.map OpRow.key) :
    opTable.find? (fun r => decide (r.key = wordKey w)) = none :=
  List.find?_eq_none.2 fun row hrow hkey => h (List.mem_map.2 ⟨row, hrow, of_decide_eq_true hkey⟩)

/-- A word outside the map is read as no accessor. -/
theorem decodeWord_ne_instr {w : InstrWord} (h : opTable.find? (fun r => decide (r.key = wordKey w)) = none)
    (i : Instr) : decodeWord w ≠ .instr i := by
  rw [decodeWord, h]
  split
  · dsimp only
    split
    · nofun
    · split <;> nofun
  · nofun

theorem decodeWord_encode {i : Instr} (h : i.WellFormed) : decodeWord (encode i) = .instr i := by
  obtain ⟨hclass, -⟩ := Laws.encodeFixed_all i
  obtain ⟨row, hrow, hmake⟩ := exists_opRow i
  have hkey : row.key = wordKey (encode i) := hmake ▸ (wordKey_encode_make hrow i.rt).symm
  rw [decodeWord, hclass, if_pos rfl, opTable_find_of_key hrow hkey, wordRt_encode h]
  exact congrArg Decoded.instr hmake

/-- A word with the match value of a row is the word of the row's instruction. -/
theorem encode_make_wordRt {row : OpRow} {w : InstrWord} (hrow : row ∈ opTable) (hkey : row.key = wordKey w) :
    encode (row.make (wordRt w)) = w :=
  word_ext ((wordKey_encode_make hrow _).trans hkey) (wordRt_encode_make hrow (wordRt_lt w))

/-- The decoder inverts the encoder, and answers an accessor for no other word. -/
theorem decodeWord_eq_instr_iff {w : InstrWord} {i : Instr} :
    decodeWord w = .instr i ↔ i.WellFormed ∧ encode i = w := by
  constructor
  · intro h
    cases hfind : opTable.find? (fun r => decide (r.key = wordKey w)) with
    | none => exact absurd h (decodeWord_ne_instr hfind i)
    | some row =>
      obtain ⟨hrow, hkey⟩ := of_opTable_find hfind
      have hwf := wellFormed_make hrow (wordRt_lt w)
      have hdecode := decodeWord_encode hwf
      rw [encode_make_wordRt hrow hkey, h] at hdecode
      obtain rfl := Decoded.instr.inj hdecode
      exact ⟨hwf, encode_make_wordRt hrow hkey⟩
  · rintro ⟨hwf, rfl⟩
    exact decodeWord_encode hwf

/-- Bytes after the first four do not count (R90). -/
theorem decode_bytesOfWord_append (w : InstrWord) (rest : List Byte) :
    decode (bytesOfWord w ++ rest) = decodeWord w :=
  congrArg decodeWord (wordOfBytes_byteOfWord w)

/-- Settles O1: the four bytes are the word, and its match value is found in the map. -/
theorem decodeOfEncode : Obligations.DecodeOfEncode :=
  fun i rest h => (decode_bytesOfWord_append (encode i) rest).trans (decodeWord_encode h)

/-- Settles O2: such a word has the match value of a row, and is the word of the row's instruction. -/
theorem encodeOfDecode : Obligations.EncodeOfDecode :=
  fun _ _ h => decodeWord_eq_instr_iff.1 h

/-- Settles O3: each vector is four given bytes, on which the decoder is evaluated. -/
theorem decodeSpecWords : Obligations.DecodeSpecWords := by
  unfold Obligations.DecodeSpecWords
  decide

/-- Settles O4: `encode_make`, row by row of the opcode map. -/
theorem matchWords : Obligations.MatchWords := by
  intro rt hrt
  have hrows : ∀ row ∈ opTable, encode (row.make rt) = row.key ||| BitVec.ofNat 32 rt :=
    fun _ hrow => encode_make hrow hrt
  simpa only [opTable, List.forall_mem_cons, List.not_mem_nil, IsEmpty.forall_iff, implies_true, and_true] using hrows

end Sys2Proof.Machine
end

section
/-! SUPPORT. The words that the decoder reads as no accessor: the MSR words of the read-only ID registers, the
IMPLEMENTATION DEFINED registers, and what is outside the spec (R95 to R97, R120, D14). -/

namespace Sys2Proof.Machine

/-! ## What the decoder answers -/

theorem decodeWord_of_notSysMove {w : InstrWord} (h : isSysMove w = false) : decodeWord w = .notSysMove w :=
  if_neg (h ▸ Bool.false_ne_true)

/-- The match values to which R93 and R96 give a meaning: those of the accessors, and those of the MSR words of the
read-only ID registers. -/
def describedKeys : List InstrWord := opTable.map OpRow.key ++ readOnlyKeys

theorem describedKeys_nodup : describedKeys.Nodup := by decide

/-- R96: the MSR words of the coordinates of the four ID registers. -/
theorem readOnlyKeys_eq :
    readOnlyKeys = [Instr.mrsIdAa64dfr0El1 0, .mrsIdAa64isar1El1 0, .mrsIdAa64isar2El1 0, .mrsIdAa64smfr0El1 0].map
      fun i => sysMoveWord false i.coordinate 0 := by decide

/-- A described match value is the one that R92 builds for the coordinate of an accessor. -/
theorem exists_sysMoveWord_of_described {w : InstrWord} (h : wordKey w ∈ describedKeys) :
    ∃ (isRead : Bool) (i : Instr), sysMoveWord isRead i.coordinate 0 = wordKey w := by
  rcases List.mem_append.1 h with h | h
  · obtain ⟨row, hrow, hkey⟩ := List.mem_map.1 h
    exact ⟨_, row.make 0, (sysMoveWord_make_zero row hrow).trans hkey⟩
  · rw [readOnlyKeys_eq] at h
    obtain ⟨i, -, hi⟩ := List.mem_map.1 h
    exact ⟨false, i, hi⟩

/-- A described word is an MRS or MSR with `op0` 3 and the coordinate of an accessor. -/
theorem fields_of_described {w : InstrWord} (h : wordKey w ∈ describedKeys) :
    isSysMove w = true ∧ wordO0 w = true ∧ ∃ i : Instr, i.coordinate = wordCoordinate w := by
  obtain ⟨isRead, i, hi⟩ := exists_sysMoveWord_of_described h
  rw [← isSysMove_wordKey, ← wordO0_wordKey, ← wordCoordinate_wordKey, ← hi]
  exact ⟨Laws.sysMoveWord_isSysMove _ _ _, sysMoveWord_o0 _ _ _, i, (Laws.sysMoveWord_coordinate _ _ _).symm⟩

theorem decodeWord_of_readOnly {w : InstrWord} (h : wordKey w ∈ readOnlyKeys) : decodeWord w = .readOnlyWrite w := by
  obtain ⟨hclass, -⟩ := fields_of_described (List.mem_append_right _ h)
  have hmap : wordKey w ∉ opTable.map OpRow.key :=
    fun hmem => List.disjoint_of_nodup_append describedKeys_nodup hmem h
  simp [decodeWord, hclass, opTable_find_eq_none hmap, h]

/-- An MRS or MSR with no described match value is told apart by CRn. -/
theorem decodeWord_of_not_described {w : InstrWord} (hclass : isSysMove w = true) (h : wordKey w ∉ describedKeys) :
    decodeWord w = if isImplementationDefined w then .implementationDefined w else .otherRegister w := by
  obtain ⟨hmap, hreadOnly⟩ : wordKey w ∉ opTable.map OpRow.key ∧ wordKey w ∉ readOnlyKeys := by
    simpa only [describedKeys, List.mem_append, not_or] using h
  simp [decodeWord, hclass, opTable_find_eq_none hmap, hreadOnly]

/-! ## The IMPLEMENTATION DEFINED space (R97) -/

/-- No accessor lies in it. -/
theorem crn_coordinate_ne (i : Instr) : i.coordinate.crn ≠ 11#4 ∧ i.coordinate.crn ≠ 15#4 := by
  cases i <;> simp only [Instr.coordinate] <;> decide

theorem isImplementationDefined_iff (w : InstrWord) :
    isImplementationDefined w = true ↔
      w.getLsbD 19 = true ∧ (w.extractLsb' 12 4 = 11#4 ∨ w.extractLsb' 12 4 = 15#4) := by
  simp only [isImplementationDefined, Bool.and_eq_true, Bool.or_eq_true, decide_eq_true_eq]
  rfl

theorem not_described_of_implementationDefined {w : InstrWord} (h : isImplementationDefined w = true) :
    wordKey w ∉ describedKeys := by
  intro hkey
  obtain ⟨-, -, i, hi⟩ := fields_of_described hkey
  obtain ⟨-, hcrn⟩ := (isImplementationDefined_iff w).1 h
  obtain ⟨h11, h15⟩ := crn_coordinate_ne i
  rw [hi] at h11 h15
  exact hcrn.elim h11 h15

/-! ## The words of read-only ID registers, and of no register of the spec -/

/-- Settles O5: the decoder answers `readOnlyWrite`, which is UNDEFINED. -/
theorem readOnlyIdWriteUndefined : Obligations.ReadOnlyIdWriteUndefined := by
  intro s w h
  rw [decode_bytesOfWord, decodeWord_of_readOnly h]
  exact ⟨_, rfl, s.takeUndefined_isUndefined⟩

/-- Settles O6: with `op0` 2, or with a coordinate of no accessor, the match value is not described, and the word is
not in the IMPLEMENTATION DEFINED space. -/
theorem outsideTheSpecRefused : Obligations.OutsideTheSpecRefused := by
  intro s w
  rw [decode_bytesOfWord, Ne, ← isSysMove_iff]
  refine ⟨fun hclass => ?_, fun hclass hout => ?_⟩
  · rw [decodeWord_of_notSysMove (Bool.eq_false_of_not_eq_true hclass)]
    rfl
  · have hkey : wordKey w ∉ describedKeys := by
      intro hkey
      obtain ⟨-, ho, i, hi⟩ := fields_of_described hkey
      rcases hout with ho0 | ⟨hcoord, -⟩
      · exact Bool.false_ne_true (ho0.symm.trans ho)
      · exact hcoord i hi
    have himpl : ¬isImplementationDefined w = true := by
      rw [isImplementationDefined_iff]
      rintro ⟨ho0, hcrn⟩
      rcases hout with hno0 | ⟨-, h11, h15⟩
      · exact Bool.false_ne_true (hno0.symm.trans ho0)
      · exact hcrn.elim h11 h15
    rw [decodeWord_of_not_described hclass hkey, if_neg himpl]
    rfl

/-! ## IMPLEMENTATION DEFINED registers -/

theorem sctlrBit_tidcp (s : State) (v : Dword) :
    sctlrBit s v .tidcp = (s.has .TIDCP1 && s.host2 && v.getLsbD 63) :=
  sctlrBit_of_presentIf v rfl rfl

/-- R120 (iii) for a register with nothing unsynchronized: no TLB holds TIDCP, so the stored bit acts. -/
theorem trapTidcp_sctlrView {s : State} (k : Nat) {a : ImplDefAccess} (hu : s.sctlrEl2.unsynced = [])
    (ha : a.reserved = true) :
    trapTidcp s (s.sctlrView k) a =
      (s.has .TIDCP1 && s.host2 && s.hcrEl2.tge && s.pstate.el == .el0 && s.sctlrEl2.val.getLsbD 63) := by
  rw [trapTidcp, s.sctlrBit_view k .tidcp hu rfl, sctlrBit_tidcp, ha, State.hostEl0, State.hostTge, Bool.and_true]
  cases s.host2 <;> cases s.hcrEl2.tge <;> simp [Bool.and_comm, Bool.and_assoc]

/-- Settles O7: the decoder answers `implementationDefined`, and `trapTidcp_sctlrView` says when TIDCP traps it. -/
theorem implementationDefinedAccess : Obligations.ImplementationDefinedAccess := by
  intro s w hclass ho0 hcrn hu
  have himpl : isImplementationDefined w = true := (isImplementationDefined_iff w).2 ⟨ho0, hcrn⟩
  have hreserved : (ImplDefAccess.mrsMsr (wordCoordinate w).crn.toNat).reserved = true := by
    rcases hcrn with hcrn | hcrn <;> simp [ImplDefAccess.reserved, wordCoordinate, hcrn]
  have hrun : run (decodeWord w) s = execImplementationDefined w s := by
    rw [decodeWord_of_not_described ((isSysMove_iff w).2 hclass) (not_described_of_implementationDefined himpl),
      if_pos himpl]
    rfl
  rw [decode_bytesOfWord, hrun, execImplementationDefined, trapTidcp_sctlrView slotTidcp hu hreserved]
  split
  · exact ⟨_, rfl, s.systemAccessTrap_trapsTo .el2 w (by decide)⟩
  · rfl

end Sys2Proof.Machine
end

section
/-! SUPPORT. The reserved bits of a layout: what the constant bits of D3 (a) make of a run that is RES0, and the bits
that no field of a register ever occupies (R130, R164, R172, R213, R355, R383, R422). -/

namespace Sys2Proof.Machine

/-! ## Masks -/

/-- The bits of the run are 0 in `v`. -/
def ZeroIn (v : Dword) (lo w : Nat) : Prop := ∀ i < 64, lo ≤ i → i < lo + w → v.getLsbD i = false

theorem and_fieldMask_eq_zero {v : Dword} {lo w : Nat} (h : ZeroIn v lo w) : v &&& fieldMask lo w = 0 := by
  refine BitVec.eq_of_getLsbD_eq fun i hi => ?_
  rw [BitVec.getLsbD_and, fieldMask_getLsbD lo w i hi]
  by_cases hin : lo ≤ i ∧ i < lo + w
  · simp [h i hi hin.1 hin.2]
  · simp [← Bool.decide_and, decide_eq_false hin]

theorem and_or_eq_zero {v m n : Dword} (hm : v &&& m = 0) (hn : v &&& n = 0) : v &&& (m ||| n) = 0 := by
  rw [BitVec.and_or_distrib_left, hm, hn]
  rfl

/-- Outside its mask a merge changes nothing. -/
theorem mergeBits_and_of_disjoint {m n : Dword} (v w : Dword) (h : m &&& n = 0) : mergeBits m v w &&& n = v &&& n := by
  refine BitVec.eq_of_getLsbD_eq fun i _ => ?_
  have hbit : (m.getLsbD i && n.getLsbD i) = false := by rw [← BitVec.getLsbD_and, h]; exact BitVec.getLsbD_zero
  rw [BitVec.getLsbD_and, BitVec.getLsbD_and, mergeBits_bit]
  cases hm : m.getLsbD i with
  | false => rfl
  | true =>
    rw [hm, Bool.true_and] at hbit
    simp [hbit]

/-! ## Places -/

/-- Two places, each a lowest bit and a width, share no bit. -/
abbrev RangesApart (p q : Nat × Nat) : Prop := p.1 + p.2 ≤ q.1 ∨ q.1 + q.2 ≤ p.1

theorem rangesApart_of_pairwise {α : Type} {place : α → Nat × Nat} {l : List α}
    (h : (l.map place).Pairwise RangesApart) {a b : α} (ha : a ∈ l) (hb : b ∈ l) (hne : a ≠ b) :
    RangesApart (place a) (place b) := by
  have hsymm : Std.Symm fun a b => RangesApart (place a) (place b) := ⟨fun _ _ => Or.symm⟩
  exact (List.pairwise_map.1 h).forall ha hb hne

/-! ## The constant bits of a layout -/

/-- The bit lies in the run. -/
def BitRun.covers (r : BitRun) (i : Nat) : Bool := (fieldMask r.lo r.width).getLsbD i

theorem BitRun.covers_iff {r : BitRun} {i : Nat} (hi : i < 64) :
    r.covers i = true ↔ r.lo ≤ i ∧ i < r.lo + r.width := by
  rw [BitRun.covers, fieldMask_getLsbD _ _ _ hi, Bool.and_eq_true, decide_eq_true_eq, decide_eq_true_eq]

/-- The constant bits with those of one more run. -/
def ConstantBits.addRun (k : ConstantBits) (r : BitRun) : ConstantBits :=
  match r.status with
  | .field => k
  | .res0 => { k with zeros := k.zeros ||| fieldMask r.lo r.width }
  | .res1 => { k with ones := k.ones ||| fieldMask r.lo r.width }

theorem constantBits_eq (runs : List BitRun) : constantBits runs = runs.foldl ConstantBits.addRun ⟨0, 0⟩ := rfl

theorem ConstantBits.addRun_zeros (k : ConstantBits) (r : BitRun) (i : Nat) :
    (k.addRun r).zeros.getLsbD i = (k.zeros.getLsbD i || (r.status == .res0 && r.covers i)) := by
  unfold ConstantBits.addRun
  split <;> simp [*, BitRun.covers]

theorem ConstantBits.addRun_ones (k : ConstantBits) (r : BitRun) (i : Nat) :
    (k.addRun r).ones.getLsbD i = (k.ones.getLsbD i || (r.status == .res1 && r.covers i)) := by
  unfold ConstantBits.addRun
  split <;> simp [*, BitRun.covers]

theorem foldl_addRun_zeros (k : ConstantBits) (runs : List BitRun) (i : Nat) :
    (runs.foldl ConstantBits.addRun k).zeros.getLsbD i =
      (k.zeros.getLsbD i || runs.any fun r => r.status == .res0 && r.covers i) := by
  induction runs generalizing k with
  | nil => simp
  | cons r runs ih => rw [List.foldl_cons, ih, ConstantBits.addRun_zeros, List.any_cons, Bool.or_assoc]

theorem foldl_addRun_ones (k : ConstantBits) (runs : List BitRun) (i : Nat) :
    (runs.foldl ConstantBits.addRun k).ones.getLsbD i =
      (k.ones.getLsbD i || runs.any fun r => r.status == .res1 && r.covers i) := by
  induction runs generalizing k with
  | nil => simp
  | cons r runs ih => rw [List.foldl_cons, ih, ConstantBits.addRun_ones, List.any_cons, Bool.or_assoc]

/-- No two runs of the layout share a bit. -/
def RunsApart (runs : List BitRun) : Prop := (runs.map fun r => (r.lo, r.width)).Pairwise RangesApart

/-- Two runs that share a bit are one run. -/
theorem RunsApart.eq_of_covers {runs : List BitRun} (h : RunsApart runs) {r q : BitRun} (hr : r ∈ runs)
    (hq : q ∈ runs) {i : Nat} (hi : i < 64) (hri : r.covers i = true) (hqi : q.covers i = true) : r = q := by
  by_contra hne
  have hapart := rangesApart_of_pairwise h hr hq hne
  rw [BitRun.covers_iff hi] at hri hqi
  omega

/-- D3 (a): the bits of a run that is RES0 read as 0. -/
theorem apply_constantBits_zeroIn {runs : List BitRun} (hapart : RunsApart runs) {lo w : Nat}
    (hr : ⟨lo, w, .res0⟩ ∈ runs) (v : Dword) : ZeroIn ((constantBits runs).apply v) lo w := by
  intro i hi hlo hhi
  have hcovers : (⟨lo, w, .res0⟩ : BitRun).covers i = true := (BitRun.covers_iff hi).2 ⟨hlo, hhi⟩
  have hzero : (constantBits runs).zeros.getLsbD i = true := by
    rw [constantBits_eq, foldl_addRun_zeros]
    exact Bool.or_eq_true_iff.2 (.inr (List.any_eq_true.2 ⟨_, hr, hcovers⟩))
  have hone : (constantBits runs).ones.getLsbD i = false := by
    rw [constantBits_eq, foldl_addRun_ones, List.any_eq_false.2]
    · simp
    · intro q hq hqi
      simp only [Bool.and_eq_true, beq_iff_eq] at hqi
      obtain ⟨hone, hqi⟩ := hqi
      rw [← hapart.eq_of_covers hr hq hi hcovers hqi] at hone
      exact nomatch hone
  rw [ConstantBits.apply_getLsbD, hzero, hone]
  simp

theorem apply_constantBits_and_eq_zero {runs : List BitRun} (hapart : RunsApart runs) {lo w : Nat}
    (hr : ⟨lo, w, .res0⟩ ∈ runs) (v : Dword) : (constantBits runs).apply v &&& fieldMask lo w = 0 :=
  and_fieldMask_eq_zero (apply_constantBits_zeroIn hapart hr v)

/-! ## HFGRTR2_EL2, TCR2_EL1 and TCR_EL1 -/

theorem hfgrtr2Runs_apart (c : Config) : RunsApart (hfgrtr2Runs c) := by
  show List.Pairwise _ ((15, 49) :: (List.range 15).reverse.map fun n => (n, 1))
  decide

theorem tcr2Runs_apart (c : Config) : RunsApart (tcr2Runs c) := by
  show List.Pairwise _ ([(22, 42), (19, 1), (12, 2), (6, 4)] ++ tcr2Fields.map fun f => (f.pos, 1))
  decide

theorem tcrRuns_apart (c : Config) : RunsApart (tcrRuns c) := by
  show List.Pairwise _ ([(62, 2), (35, 1), (6, 1)] ++ tcrFields.map fun f => (f.lo, f.width))
  decide

/-- R213. -/
theorem hfgrtr2_reserved (c : Config) (v : Dword) : (hfgrtr2Constants c).apply v &&& 0xFFFFFFFFFFFF8000 = 0 :=
  apply_constantBits_and_eq_zero (hfgrtr2Runs_apart c) List.mem_cons_self v

/-- R383. -/
theorem tcr2_reserved (c : Config) (v : Dword) : (tcr2Constants c).apply v &&& 0xFFFFFFFFFFC833C0 = 0 := by
  have hmask : (0xFFFFFFFFFFC833C0 : Dword) =
      fieldMask 22 42 ||| fieldMask 19 1 ||| fieldMask 12 2 ||| fieldMask 6 4 := by decide
  have hrun : ∀ {lo w}, ⟨lo, w, .res0⟩ ∈ tcr2Runs c → (tcr2Constants c).apply v &&& fieldMask lo w = 0 :=
    fun h => apply_constantBits_and_eq_zero (tcr2Runs_apart c) h v
  rw [hmask]
  exact and_or_eq_zero (and_or_eq_zero (and_or_eq_zero (hrun (by simp [tcr2Runs])) (hrun (by simp [tcr2Runs])))
    (hrun (by simp [tcr2Runs]))) (hrun (by simp [tcr2Runs]))

/-- R422. -/
theorem tcr_reserved (c : Config) (v : Dword) : (tcrConstants c).apply v &&& 0xC000000800000040 = 0 := by
  have hmask : (0xC000000800000040 : Dword) = fieldMask 62 2 ||| fieldMask 35 1 ||| fieldMask 6 1 := by decide
  have hrun : ∀ {lo w}, ⟨lo, w, .res0⟩ ∈ tcrRuns c → (tcrConstants c).apply v &&& fieldMask lo w = 0 :=
    fun h => apply_constantBits_and_eq_zero (tcrRuns_apart c) h v
  rw [hmask]
  exact and_or_eq_zero (and_or_eq_zero (hrun (by simp [tcrRuns])) (hrun (by simp [tcrRuns]))) (hrun (by simp [tcrRuns]))

/-- The granules that a read gives back lie outside the reserved bits. -/
theorem tcrReadBack_reserved (c : Config) (v : Dword) : tcrReadBack c v &&& 0xC000000800000040 = 0 := by
  simp only [tcrReadBack]
  split
  · rw [mergeBits_and_of_disjoint _ _ (by decide), tcr_reserved]
  · exact tcr_reserved c v

/-! ## SCTLR_EL2 -/

theorem sctlrFields_apart : (sctlrFields.map fun f => (f.lo, f.width)).Pairwise RangesApart := by decide

theorem sctlrRuns_apart (c : Config) : RunsApart (sctlrRuns c) := sctlrFields_apart

theorem mem_sctlrFields (f : SctlrField) : f ∈ sctlrFields := by cases f <;> decide

theorem sctlrFields_masks_disjoint {f g : SctlrField} (h : f ≠ g) :
    fieldMask f.lo f.width &&& fieldMask g.lo g.width = 0 := by
  have hapart := rangesApart_of_pairwise sctlrFields_apart (mem_sctlrFields f) (mem_sctlrFields g) h
  refine and_fieldMask_eq_zero fun i hi hlo hhi => ?_
  rw [fieldMask_getLsbD _ _ _ hi, ← Bool.decide_and, decide_eq_false_iff_not]
  omega

/-- D3: a field that is RES0 in every context is constant 0. -/
theorem mem_sctlrRuns_of_res0 {c : Config} {f : SctlrField} (h : ∀ host2 host0, sctlrStatus c host2 host0 f = .res0) :
    ⟨f.lo, f.width, .res0⟩ ∈ sctlrRuns c := by
  refine List.mem_map.2 ⟨f, mem_sctlrFields f, ?_⟩
  simp only [h, hostContexts]
  split <;> rfl

theorem sctlr_constants_res0 {c : Config} {f : SctlrField} (h : ∀ host2 host0, sctlrStatus c host2 host0 f = .res0)
    (v : Dword) : (sctlrConstants c).apply v &&& fieldMask f.lo f.width = 0 :=
  apply_constantBits_and_eq_zero (sctlrRuns_apart c) (mem_sctlrRuns_of_res0 h) v

/-- A union of fields has none of the bits of a mask that each of them misses. -/
theorem foldl_fieldMask_and_eq_zero {m n : Dword} (fields : List SctlrField) (hm : m &&& n = 0)
    (h : ∀ f ∈ fields, fieldMask f.lo f.width &&& n = 0) :
    fields.foldl (fun m f => m ||| fieldMask f.lo f.width) m &&& n = 0 := by
  induction fields generalizing m with
  | nil => exact hm
  | cons f fields ih =>
    obtain ⟨hf, hrest⟩ := List.forall_mem_cons.1 h
    refine ih ?_ hrest
    rw [BitVec.and_or_distrib_right, hm, hf]
    rfl

/-- No bit of it is among those that a context reserves to 1. -/
theorem sctlrReservedOnes_res0 {c : Config} {f : SctlrField} (h : ∀ host2 host0, sctlrStatus c host2 host0 f = .res0)
    (host2 host0 : Bool) : sctlrReservedOnes c host2 host0 &&& fieldMask f.lo f.width = 0 := by
  refine foldl_fieldMask_and_eq_zero _ BitVec.zero_and fun g hg => sctlrFields_masks_disjoint ?_
  rintro rfl
  simp [h] at hg

/-- It reads as 0, whatever is stored. -/
theorem sctlrReadBack_res0 (s : State) {f : SctlrField}
    (h : ∀ host2 host0, sctlrStatus s.cfg host2 host0 f = .res0) (v : Dword) :
    s.sctlrReadBack v &&& fieldMask f.lo f.width = 0 := by
  rw [State.sctlrReadBack, BitVec.and_or_distrib_right, sctlr_constants_res0 h, sctlrReservedOnes_res0 h]
  rfl

/-- R130, R164, R172. -/
theorem sctlrReadBack_reserved (s : State) (v : Dword) : s.sctlrReadBack v &&& 0x003C000000020200 = 0 := by
  have hmask : (0x003C000000020200 : Dword) = fieldMask 50 4 ||| fieldMask 17 1 ||| fieldMask 9 1 := by decide
  rw [hmask]
  exact and_or_eq_zero (and_or_eq_zero (sctlrReadBack_res0 s (f := .res53_50) (fun _ _ => rfl) v)
    (sctlrReadBack_res0 s (f := .res17) (fun _ _ => rfl) v)) (sctlrReadBack_res0 s (f := .res9) (fun _ _ => rfl) v)

/-! ## ID_AA64SMFR0_EL1 -/

/-- R355: what is RES0 on an implementation includes the bits that are always reserved. -/
theorem smfr0Reserved_subset (c : Config) : ~~~smfr0Res0 c &&& smfr0Reserved = 0 := by
  unfold smfr0Res0
  split
  · decide
  · split <;> decide

/-- Settles O49, register by register; SCTLR_EL2 and HFGRTR2_EL2 read as 0 whole where EL2 is absent. -/
theorem reservedBitsReadZero : Obligations.ReservedBitsReadZero := by
  intro s n
  refine ⟨?_, ?_, tcr2_reserved s.cfg _, tcrReadBack_reserved s.cfg _, ?_⟩
  · simp only [State.readReg, State.readBack]
    split
    · exact sctlrReadBack_reserved s _
    · exact BitVec.zero_and
  · simp only [State.readReg, State.readBack]
    split
    · exact hfgrtr2_reserved s.cfg _
    · exact BitVec.zero_and
  · show s.cfg.idAa64smfr0 &&& ~~~smfr0Res0 s.cfg &&& smfr0Reserved = 0
    rw [BitVec.and_assoc, smfr0Reserved_subset]
    exact BitVec.and_zero

end Sys2Proof.Machine
end

section
/-! SUPPORT. What an exception to EL2 does with each field of SCTLR_EL2 that entry looks at (R512), for a register with
nothing unsynchronized. -/

namespace Sys2Proof.Machine

/-! ## The fields of entry -/

/-- A bit that is RES1 without its condition acts as stored under it and as 1 otherwise. -/
theorem sctlrBit_of_presentIf_res1 {s : State} {f : SctlrField} {p : Bool} (v : Dword)
    (hf : sctlrStatus s.cfg s.host2 s.host0 f = presentIf p .res1) (hw : f.width = 1) :
    sctlrBit s v f = (!p || v.getLsbD f.lo) := by
  cases p with
  | true => exact sctlrBit_of_field v hf hw
  | false =>
    unfold sctlrBit sctlrValue
    rw [hf, hw]
    rfl

theorem sctlrBit_span (s : State) (v : Dword) : sctlrBit s v .span = (!s.host2 || v.getLsbD 23) :=
  sctlrBit_of_presentIf_res1 v rfl rfl
theorem sctlrBit_eis (s : State) (v : Dword) : sctlrBit s v .eis = (!s.has .ExS || v.getLsbD 22) :=
  sctlrBit_of_presentIf_res1 v rfl rfl
theorem sctlrBit_dssbs (s : State) (v : Dword) : sctlrBit s v .dssbs = (s.has .SSBS && v.getLsbD 44) :=
  sctlrBit_of_presentIf v rfl rfl
theorem sctlrBit_nmi (s : State) (v : Dword) : sctlrBit s v .nmi = (s.has .NMI && v.getLsbD 61) :=
  sctlrBit_of_presentIf v rfl rfl
theorem sctlrBit_spintmask (s : State) (v : Dword) : sctlrBit s v .spintmask = (s.has .NMI && v.getLsbD 62) :=
  sctlrBit_of_presentIf v rfl rfl
theorem sctlrBit_itfsb (s : State) (v : Dword) : sctlrBit s v .itfsb = (s.has .MTE_ASYNC && v.getLsbD 37) :=
  sctlrBit_of_presentIf v rfl rfl

/-! ## What each rule of entry takes from the register

No TLB holds a field of entry, so whatever the draw `k`, the stored bit acts. -/

section
variable {s : State} (hen : s.el2Enabled = true) (hu : s.sctlrEl2.unsynced = [])
include hu

/-- R158. -/
theorem entrySetsPan_sctlrView (k : Nat) :
    entrySetsPan s (s.sctlrView k) = (s.host2 && s.hcrEl2.tge && !s.sctlrEl2.val.getLsbD 23) := by
  rw [entrySetsPan, s.sctlrBit_view k .span hu rfl, sctlrBit_span, State.hostTge]
  cases s.host2 <;> rfl

include hen

/-- R133. -/
theorem entrySsbs_sctlrView (k : Nat) (old : Bool) :
    entrySsbs s (s.sctlrView k) old = if s.has .SSBS then s.sctlrEl2.val.getLsbD 44 else old := by
  rw [entrySsbs, s.sctlrBit_view k .dssbs hu rfl, sctlrBit_dssbs, hen]
  cases s.has .SSBS <;> rfl

/-- R121, D8. -/
theorem entryAllint_sctlrView (k : Nat) (old : Bool) :
    entryAllint s (s.sctlrView k) old =
      if s.has .NMI && s.sctlrEl2.val.getLsbD 61 then !s.sctlrEl2.val.getLsbD 62 else old := by
  rw [entryAllint, s.sctlrBit_view k .nmi hu rfl, s.sctlrBit_view k .spintmask hu rfl, sctlrBit_nmi,
    sctlrBit_spintmask, hen]
  cases s.has .NMI <;> rfl

/-- R159. -/
theorem entrySynchronizes_sctlrView (k : Nat) :
    entrySynchronizes s (s.sctlrView k) = (!s.has .ExS || s.sctlrEl2.val.getLsbD 22) := by
  rw [entrySynchronizes, s.sctlrBit_view k .eis hu rfl, sctlrBit_eis, hen]
  rfl

/-- R138. -/
theorem entrySyncsTagFaults_sctlrView (k : Nat) :
    entrySyncsTagFaults s (s.sctlrView k) = (s.has .MTE_ASYNC && s.sctlrEl2.val.getLsbD 37) := by
  rw [entrySyncsTagFaults, s.sctlrBit_view k .itfsb hu rfl, sctlrBit_itfsb, hen, Bool.true_and]

/-- R160, outside Debug state. -/
theorem errorSyncAdded_sctlrView (hd : s.dbgState.halted = false) (k n : Nat) :
    errorSyncAdded s (s.sctlrView k) n .exceptionToEl2 =
      (s.has .IESB && (s.has .DoubleFault2 && s.sctlr2El2Nmea || s.sctlrEl2.val.getLsbD 21)) := by
  have hiesb : effIesb s (s.sctlrView k) n =
      (s.has .DoubleFault2 && s.sctlr2El2Nmea || s.has .IESB && s.sctlrEl2.val.getLsbD 21) := by
    rw [← effIesb_eq hd s.sctlrEl2.val n, effIesb, effIesb, s.sctlrBit_view k .iesb hu rfl]
  rw [errorSyncAdded, hiesb, hen, IesbPoint.ofEl2]
  cases s.has .IESB <;> simp

end

/-! ## The components of the state after entry -/

section
variable (s : State) (kind : ExcKind) (cause : ExcCause) (iss : Option (BitVec 25))

theorem State.takeException_el2_pstate : (s.takeException kind .el2 cause iss).pstate = s.pstateIntoEl2 := by
  simp only [State.takeException, State.enterEl2]
  split <;> split <;> rfl

theorem State.takeException_el2_lastException :
    (s.takeException kind .el2 cause iss).lastException =
      some ⟨kind, .el2, cause, iss, entrySynchronizes s (s.sctlrView (slotEntry + 3)),
        errorSyncAdded s (s.sctlrView (slotEntry + 6)) (s.draw (slotEntry + 7)) .exceptionToEl2⟩ := by
  simp only [State.takeException, State.enterEl2]
  split <;> split <;> rfl

theorem State.takeException_el2_tagFaults :
    ((s.takeException kind .el2 cause iss).tagFaults, (s.takeException kind .el2 cause iss).pendingTagFaults) =
      if entrySyncsTagFaults s (s.sctlrView (slotEntry + 11)) then
        (s.syncTagFaults.tagFaults, s.syncTagFaults.pendingTagFaults)
      else (s.tagFaults, s.pendingTagFaults) := by
  simp only [State.takeException, State.enterEl2]
  generalize entrySyncsTagFaults s _ = syncTags, entrySynchronizes s _ = ctxSync
  cases syncTags <;> cases ctxSync <;> rfl

theorem State.takeException_el2_owned :
    (s.takeException kind .el2 cause iss).owned =
      if entrySynchronizes s (s.sctlrView (slotEntry + 3)) then s.contextSync.owned else s.owned := by
  simp only [State.takeException, State.enterEl2]
  generalize entrySyncsTagFaults s _ = syncTags, entrySynchronizes s _ = ctxSync
  cases syncTags <;> cases ctxSync <;> rfl

end

/-- Settles O37, component by component. -/
theorem entryToEl2 : Obligations.EntryToEl2 := by
  intro s kind cause iss hen hu hd
  refine ⟨?_, ?_, ?_, ?_, ?_, ?_⟩
  · rw [s.takeException_el2_pstate, State.pstateIntoEl2, entrySetsPan_sctlrView hu]
    simp only [Bool.if_true_left, Bool.decide_eq_true]
  · rw [s.takeException_el2_pstate]
    exact entrySsbs_sctlrView hen hu ..
  · rw [s.takeException_el2_pstate]
    exact entryAllint_sctlrView hen hu ..
  · rw [s.takeException_el2_lastException, entrySynchronizes_sctlrView hen hu, errorSyncAdded_sctlrView hen hu hd]
  · rw [s.takeException_el2_tagFaults, entrySyncsTagFaults_sctlrView hen hu]
    rfl
  · have howned := s.takeException_el2_owned kind cause iss
    rw [entrySynchronizes_sctlrView hen hu] at howned
    exact howned

end Sys2Proof.Machine
end

section
/-! SUPPORT. What SCTLR_EL2 makes of an instruction executed at EL0 under a host with TGE 1, event by event (R504 to
R506). -/

namespace Sys2Proof.Machine

/-! ## Execution at EL0 under a host -/

theorem State.hostEl0_iff (s : State) :
    s.hostEl0 = true ↔ s.pstate.el = .el0 ∧ s.host2 = true ∧ s.hcrEl2.tge = true := by
  simp only [State.hostEl0, State.hostTge, Bool.and_eq_true, beq_iff_eq]

theorem State.host2_of_hostEl0 {s : State} (h : s.hostEl0 = true) : s.host2 = true := (s.hostEl0_iff.1 h).2.1

theorem State.host0_of_hostEl0 {s : State} (h : s.hostEl0 = true) : s.host0 = true := by
  obtain ⟨-, hhost, htge⟩ := s.hostEl0_iff.1 h
  rw [s.host0_eq, hhost, htge]
  rfl

/-! ## The fields of the EL0 controls -/

theorem sctlrBit_enTP2 (s : State) (v : Dword) : sctlrBit s v .enTP2 = (s.has .SME && s.host2 && v.getLsbD 60) :=
  sctlrBit_of_presentIf v rfl rfl
theorem sctlrBit_enALS (s : State) (v : Dword) : sctlrBit s v .enALS = (s.has .LS64 && s.host2 && v.getLsbD 56) :=
  sctlrBit_of_presentIf v rfl rfl
theorem sctlrBit_enAS0 (s : State) (v : Dword) :
    sctlrBit s v .enAS0 = (s.has .LS64_ACCDATA && s.host2 && v.getLsbD 55) := sctlrBit_of_presentIf v rfl rfl
theorem sctlrBit_enASR (s : State) (v : Dword) : sctlrBit s v .enASR = (s.has .LS64_V && s.host2 && v.getLsbD 54) :=
  sctlrBit_of_presentIf v rfl rfl
theorem sctlrBit_uci (s : State) (v : Dword) : sctlrBit s v .uci = (s.host2 && v.getLsbD 26) :=
  sctlrBit_of_presentIf v rfl rfl
theorem sctlrBit_uct (s : State) (v : Dword) : sctlrBit s v .uct = (s.host2 && v.getLsbD 15) :=
  sctlrBit_of_presentIf v rfl rfl
theorem sctlrBit_dze (s : State) (v : Dword) : sctlrBit s v .dze = (s.host2 && v.getLsbD 14) :=
  sctlrBit_of_presentIf v rfl rfl
theorem sctlrBit_enRCTX (s : State) (v : Dword) :
    sctlrBit s v .enRCTX = (s.has .SPECRES && s.host2 && v.getLsbD 10) := sctlrBit_of_presentIf v rfl rfl

/-! Four fields are reserved to a constant that depends on more than one condition (R161, R173, R174, R176). -/

/-- TSCXT where one of its features is implemented. -/
theorem sctlrBit_tscxt_of_field {s : State} (v : Dword) (hhost : s.host2 = true)
    (hcsv2 : (s.has .CSV2_2 || s.has .CSV2_1p2) = true) : sctlrBit s v .tscxt = v.getLsbD 20 := by
  refine sctlrBit_of_field v ?_ rfl
  show presentIf ((s.has .CSV2_2 || s.has .CSV2_1p2) && s.host2) _ = _
  rw [hcsv2, hhost]
  rfl

/-- SED is RES1 where no level can be mixed-endian. -/
theorem sctlrBit_sed_of_aa32 {s : State} (v : Dword) (hhost : s.host2 = true) (haa32 : s.has .AA32EL0 = true) :
    sctlrBit s v .sed = (v.getLsbD 8 || !(s.has .MixedEnd || s.has .MixedEndEL0)) := by
  have hstatus : sctlrStatus s.cfg s.host2 s.host0 .sed = presentIf (s.has .MixedEnd || s.has .MixedEndEL0) .res1 := by
    show (if s.host2 then (if s.has .AA32EL0 then _ else _) else _) = _
    rw [hhost, haa32]
    rfl
  rw [sctlrBit_of_presentIf_res1 v hstatus rfl, Bool.or_comm]
  rfl

theorem sctlrBit_itd_of_aa32 {s : State} (v : Dword) (hhost : s.host2 = true) (haa32 : s.has .AA32EL0 = true) :
    sctlrBit s v .itd = (s.cfg.itdImplemented && v.getLsbD 7) := by
  refine sctlrBit_of_presentIf v ?_ rfl
  show (if s.host2 then (if s.has .AA32EL0 then _ else _) else _) = _
  rw [hhost, haa32]
  rfl

/-- CP15BEN where it is not implemented is the constant of the configuration. -/
theorem sctlrBit_cp15ben_of_aa32 {s : State} (v : Dword) (hhost : s.host2 = true) (haa32 : s.has .AA32EL0 = true) :
    sctlrBit s v .cp15ben = if s.cfg.cp15benImplemented then v.getLsbD 5 else s.cfg.cp15benFixed := by
  have hstatus : sctlrStatus s.cfg s.host2 s.host0 .cp15ben =
      presentIf s.cfg.cp15benImplemented (if s.cfg.cp15benFixed then .res1 else .res0) := by
    show (if !s.host2 then _ else if !s.has .AA32EL0 then _ else _) = _
    rw [hhost, haa32]
    rfl
  cases himpl : s.cfg.cp15benImplemented with
  | true =>
    rw [himpl] at hstatus
    exact sctlrBit_of_field v hstatus rfl
  | false => cases hfixed : s.cfg.cp15benFixed <;> simp [sctlrBit, sctlrValue, hstatus, himpl, hfixed, SctlrField.width]

/-! ## The events -/

/-- The outcome of a control that traps under a condition (R505). -/
def trapWhen (c : Bool) (ec : BitVec 6) (iss : Option (BitVec 25)) : ControlOutcome :=
  if c then .trapToEl2 ec iss else .proceed

/-- The outcome of a control that makes an instruction UNDEFINED under a condition (R506). -/
def undefinedWhen (c : Bool) : ControlOutcome := if c then .undefined else .proceed

section
variable {s : State} (hl : s.hostEl0 = true) (v : Dword)
include hl

/-- R120. -/
theorem el0Control_implementationDefined (a : ImplDefAccess) :
    el0Control s v (.implementationDefined a) = trapWhen (s.has .TIDCP1 && v.getLsbD 63 && a.reserved) a.ec none := by
  simp only [el0Control, trapTidcp, trapWhen, hl, sctlrBit_tidcp, State.host2_of_hostEl0 hl, Bool.true_and,
    Bool.and_true]

/-- R123. -/
theorem el0Control_tpidr2Access :
    el0Control s v .tpidr2Access = trapWhen (s.has .SME && !v.getLsbD 60) 0x18 none := by
  simp only [el0Control, hl, sctlrBit_enTP2, State.host2_of_hostEl0 hl]
  cases s.has .SME <;> rfl

/-- R127. -/
theorem el0Control_ld64bSt64b :
    el0Control s v .ld64bSt64b = trapWhen (s.has .LS64 && !v.getLsbD 56) 0x0A (some 2) := by
  simp only [el0Control, hl, sctlrBit_enALS, State.host2_of_hostEl0 hl]
  cases s.has .LS64 <;> rfl

/-- R128. -/
theorem el0Control_st64bv0 :
    el0Control s v .st64bv0 = trapWhen (s.has .LS64_ACCDATA && !v.getLsbD 55) 0x0A (some 1) := by
  simp only [el0Control, hl, sctlrBit_enAS0, State.host2_of_hostEl0 hl]
  cases s.has .LS64_ACCDATA <;> rfl

/-- R129. -/
theorem el0Control_st64bv :
    el0Control s v .st64bv = trapWhen (s.has .LS64_V && !v.getLsbD 54) 0x0A (some 0) := by
  simp only [el0Control, hl, sctlrBit_enASR, State.host2_of_hostEl0 hl]
  cases s.has .LS64_V <;> rfl

/-- In a host with EL2 enabled EnFPM acts as stored. -/
theorem effEnFpm_of_hostEl0 : effEnFpm s v = (s.has .FPMR && v.getLsbD 34) := by
  rw [effEnFpm_eq, State.el2Enabled_of_host2 (State.host2_of_hostEl0 hl), State.host0_of_hostEl0 hl, Bool.and_true]
  rfl

/-- R141, a direct access. -/
theorem el0Control_fpmrDirect (higherPriority : Bool) :
    el0Control s v (.fpmrDirect higherPriority) =
      trapWhen (s.has .FPMR && !v.getLsbD 34 && !higherPriority) 0x18 none := by
  simp only [el0Control, hl, effEnFpm_of_hostEl0 hl, State.host0_of_hostEl0 hl]
  cases s.has .FPMR <;> rfl

/-- R141, an indirect access. -/
theorem el0Control_fp8Indirect :
    el0Control s v .fp8Indirect = undefinedWhen (s.has .FPMR && !v.getLsbD 34) := by
  simp only [el0Control, hl, effEnFpm_of_hostEl0 hl, State.host0_of_hostEl0 hl]
  cases s.has .FPMR <;> rfl

/-- R155. -/
theorem el0Control_cacheMaintenance (op : CacheOp) :
    el0Control s v (.cacheMaintenance op) = trapWhen (!v.getLsbD 26 && op.underUci s.cfg) 0x18 none := by
  simp only [el0Control, trapWhen, hl, sctlrBit_uci, State.host2_of_hostEl0 hl, Bool.true_and, Bool.and_comm]

/-- R161. -/
theorem el0Control_scxtnumAccess :
    el0Control s v .scxtnumAccess =
      trapWhen ((s.has .CSV2_2 || s.has .CSV2_1p2) && v.getLsbD 20) s.cfg.trapCodes.tscxt none := by
  simp only [el0Control, hl]
  cases hcsv2 : s.has .CSV2_2 || s.has .CSV2_1p2 with
  | false => rfl
  | true =>
    rw [sctlrBit_tscxt_of_field v (State.host2_of_hostEl0 hl) hcsv2]
    rfl

/-- R166. -/
theorem el0Control_ctrAccess :
    el0Control s v .ctrAccess = trapWhen (!v.getLsbD 15) s.cfg.trapCodes.uct none := by
  simp only [el0Control, trapWhen, hl, sctlrBit_uct, State.host2_of_hostEl0 hl, Bool.true_and]

/-- R167. -/
theorem el0Control_zeroBlock (op : ZeroOp) :
    el0Control s v (.zeroBlock op) =
      trapWhen (!v.getLsbD 14 && (op == .dcZva || s.has .MTE)) s.cfg.trapCodes.dze none := by
  simp only [el0Control, trapWhen, hl, sctlrBit_dze, State.host2_of_hostEl0 hl, Bool.true_and, Bool.and_comm]

/-- R171. -/
theorem el0Control_rctx (op : RctxOp) :
    el0Control s v (.rctx op) =
      trapWhen (s.has .SPECRES && !v.getLsbD 10 && (op != .cosp || s.has .SPECRES2)) s.cfg.trapCodes.enrctx none := by
  simp only [el0Control, trapWhen, hl, sctlrBit_enRCTX, State.host2_of_hostEl0 hl]
  cases s.has .SPECRES with
  | false => rfl
  | true => simp only [Bool.true_and, Bool.and_comm]

/-- R142. -/
theorem el0Control_memoryCopySet :
    el0Control s v .memoryCopySet = undefinedWhen (s.has .MOPS && !v.getLsbD 33) := by
  obtain ⟨hel, hhost, -⟩ := s.hostEl0_iff.1 hl
  simp only [el0Control, hel, State.el2Enabled_of_host2 hhost, effMscen_eq, State.host0_of_hostEl0 hl]
  cases s.has .MOPS <;> rfl

/-- R173. -/
theorem el0Control_setend :
    el0Control s v .setend =
      undefinedWhen (s.has .AA32EL0 && (v.getLsbD 8 || !(s.has .MixedEnd || s.has .MixedEndEL0))) := by
  simp only [el0Control, hl]
  cases haa32 : s.has .AA32EL0 with
  | false => rfl
  | true =>
    rw [sctlrBit_sed_of_aa32 v (State.host2_of_hostEl0 hl) haa32]
    rfl

/-- The instructions that ITD disables are tested under its conditions only (R174). -/
theorem and_sctlrBit_itd :
    (s.has .AA32EL0 && s.cfg.itdImplemented && sctlrBit s v .itd) =
      (s.has .AA32EL0 && s.cfg.itdImplemented && v.getLsbD 7) := by
  cases haa32 : s.has .AA32EL0 with
  | false => rfl
  | true =>
    rw [sctlrBit_itd_of_aa32 v (State.host2_of_hostEl0 hl) haa32]
    cases s.cfg.itdImplemented <;> rfl

/-- R174 (a). -/
theorem el0Control_itBlock (hw1 : BitVec 16) :
    el0Control s v (.itBlock hw1) =
      undefinedWhen (s.has .AA32EL0 && s.cfg.itdImplemented && v.getLsbD 7 && hw1.extractLsb' 0 4 != 8) := by
  simp only [el0Control, hl, and_sctlrBit_itd hl]
  rfl

/-- R174 (b). -/
theorem el0Control_afterIt (hw1 : BitVec 16) :
    el0Control s v (.afterIt hw1) =
      undefinedWhen (s.has .AA32EL0 && s.cfg.itdImplemented && v.getLsbD 7 && itdDisables hw1) := by
  simp only [el0Control, hl, and_sctlrBit_itd hl]
  rfl

/-- R176. -/
theorem el0Control_cp15Barrier :
    el0Control s v .cp15Barrier =
      undefinedWhen
        (s.has .AA32EL0 && !(if s.cfg.cp15benImplemented then v.getLsbD 5 else s.cfg.cp15benFixed)) := by
  simp only [el0Control, hl]
  cases haa32 : s.has .AA32EL0 with
  | false => rfl
  | true =>
    rw [sctlrBit_cp15ben_of_aa32 v (State.host2_of_hostEl0 hl) haa32]
    rfl

end

/-! ## Sets of instructions -/

/-- R155, as the list of the instructions under each feature condition. -/
theorem CacheOp.underUci_eq (c : Config) (op : CacheOp) :
    op.underUci c =
      ([CacheOp.dcCvau, .dcCivac, .dcCvac, .icIvau].contains op ||
        c.has .MTE && [CacheOp.dcCigvac, .dcCigdvac, .dcCgvac, .dcCgdvac].contains op ||
        c.has .DPB && (op == .dcCvap || c.has .MTE && [CacheOp.dcCgvap, .dcCgdvap].contains op) ||
        c.has .DPB2 && (op == .dcCvadp || c.has .MTE && [CacheOp.dcCgvadp, .dcCgdvadp].contains op) ||
        c.has .OCCMO && [CacheOp.dcCivaoc, .dcCigdvaoc, .dcCvaoc, .dcCgdvaoc].contains op) := by
  cases op <;> simp [CacheOp.underUci, beq_eq_decide]

/-- A halfword under the mask of a field is tested by the field. -/
theorem and_beq_of_field {m c : BitVec 16} (w : BitVec 16) (lo n : Nat) (x : BitVec n)
    (h : lo + n ≤ 16 ∧ m = (BitVec.allOnes n).setWidth 16 <<< lo ∧ c = x.setWidth 16 <<< lo) :
    (w &&& m == c) = (w.extractLsb' lo n == x) := by
  obtain ⟨hle, hm, hc⟩ := h
  rw [Bool.eq_iff_iff, beq_iff_eq, beq_iff_eq, hm, hc]
  constructor
  · intro hw
    refine BitVec.eq_of_getLsbD_eq fun i hi => ?_
    have hbit := congrArg (BitVec.getLsbD · (lo + i)) hw
    simpa [hi, show lo + i < 16 by omega] using hbit
  · rintro rfl
    refine BitVec.eq_of_getLsbD_eq fun i hi => ?_
    by_cases hlo : i < lo
    · simp [hlo]
    · simp [hlo, hi, show lo + (i - lo) = i by omega, Bool.and_comm]

/-- A field of one bit is tested by the bit. -/
theorem extractLsb'_one_beq (w : BitVec 16) (i : Nat) : (w.extractLsb' i 1 == 1#1) = w.getLsbD i := by
  have hbit : w.extractLsb' i 1 = BitVec.ofBool (w.getLsbD i) :=
    BitVec.eq_of_getLsbD_eq fun j hj => by simp [Nat.lt_one_iff.1 hj]
  rw [hbit]
  cases w.getLsbD i <;> rfl

/-- One of two disjoint masks. -/
theorem and_eq_of_and_or_eq {w m n c d : BitVec 16} (hc : c &&& m = c) (hd : d &&& n = d) (hmn : m &&& n = 0)
    (h : w &&& (m ||| n) = c ||| d) : w &&& m = c := by
  have hnm : n &&& m = 0 := BitVec.and_comm .. ▸ hmn
  have hm : (m ||| n) &&& m = m := by rw [BitVec.and_or_distrib_right, hnm, BitVec.and_self]; exact BitVec.or_zero
  have hdm : d &&& m = 0 := by rw [← hd, BitVec.and_assoc, hnm]; exact BitVec.and_zero
  calc w &&& m = w &&& (m ||| n) &&& m := by rw [BitVec.and_assoc, hm]
    _ = c := by rw [h, BitVec.and_or_distrib_right, hc, hdm]; exact BitVec.or_zero

/-- Two disjoint masks are tested one by one. -/
theorem and_or_beq_or {w m n c d : BitVec 16} (h : c &&& m = c ∧ d &&& n = d ∧ m &&& n = 0) :
    (w &&& (m ||| n) == c ||| d) = (w &&& m == c && w &&& n == d) := by
  obtain ⟨hc, hd, hmn⟩ := h
  rw [Bool.eq_iff_iff, Bool.and_eq_true, beq_iff_eq, beq_iff_eq, beq_iff_eq]
  constructor
  · intro h
    refine ⟨and_eq_of_and_or_eq hc hd hmn h, and_eq_of_and_or_eq hd hc (BitVec.and_comm .. ▸ hmn) ?_⟩
    rwa [BitVec.or_comm n, BitVec.or_comm d]
  · rintro ⟨rfl, rfl⟩
    exact BitVec.and_or_distrib_left

/-- R174 (b): the disabled halfwords by their fields. -/
theorem itdDisables_eq (w : BitVec 16) :
    itdDisables w =
      (w.extractLsb' 14 2 == 0b11 || w.extractLsb' 12 4 == 0b1011 || w.extractLsb' 11 5 == 0b10100 ||
        w.extractLsb' 11 5 == 0b01001 ||
        w.extractLsb' 12 4 == 0b0100 && w.getLsbD 10 && w.extractLsb' 3 4 == 0b1111 ||
        w.extractLsb' 10 6 == 0b010001 && w.getLsbD 7 && w.extractLsb' 0 3 == 0b111) := by
  have hregister : (w &&& 0xF478 == 0x4478) =
      (w.extractLsb' 12 4 == 0b0100 && w.getLsbD 10 && w.extractLsb' 3 4 == 0b1111) := by
    rw [show (0xF478 : BitVec 16) = 0xF000 ||| 0x0400 ||| 0x0078 by decide,
      show (0x4478 : BitVec 16) = 0x4000 ||| 0x0400 ||| 0x0078 by decide, and_or_beq_or (by decide),
      and_or_beq_or (by decide), and_beq_of_field w 12 4 0b0100 (by decide), and_beq_of_field w 10 1 1 (by decide),
      and_beq_of_field w 3 4 0b1111 (by decide), ← extractLsb'_one_beq]
    rfl
  have hdestination : (w &&& 0xFC87 == 0x4487) =
      (w.extractLsb' 10 6 == 0b010001 && w.getLsbD 7 && w.extractLsb' 0 3 == 0b111) := by
    rw [show (0xFC87 : BitVec 16) = 0xFC00 ||| 0x0080 ||| 0x0007 by decide,
      show (0x4487 : BitVec 16) = 0x4400 ||| 0x0080 ||| 0x0007 by decide, and_or_beq_or (by decide),
      and_or_beq_or (by decide), and_beq_of_field w 10 6 0b010001 (by decide), and_beq_of_field w 7 1 1 (by decide),
      and_beq_of_field w 0 3 0b111 (by decide), ← extractLsb'_one_beq]
    rfl
  rw [itdDisables, and_beq_of_field w 14 2 0b11 (by decide), and_beq_of_field w 12 4 0b1011 (by decide),
    and_beq_of_field w 11 5 0b10100 (by decide), and_beq_of_field w 11 5 0b01001 (by decide), hregister, hdestination]

/-! ## All events -/

/-- Settles O54, event by event. -/
theorem el0TrapCodes : Obligations.El0TrapCodes := by
  intro s v hel hhost htge
  have hl : s.hostEl0 = true := s.hostEl0_iff.2 ⟨hel, hhost, htge⟩
  have himpl := el0Control_implementationDefined hl v
  refine ⟨fun n => himpl (.sys n), fun n => himpl (.sysp n), fun n => himpl (.mrsMsr n), fun n => himpl (.mrrsMsrr n),
    fun p n m => ?_, el0Control_tpidr2Access hl v, el0Control_ld64bSt64b hl v, el0Control_st64bv0 hl v,
    el0Control_st64bv hl v, el0Control_fpmrDirect hl v, el0Control_fp8Indirect hl v, fun op => ?_,
    el0Control_scxtnumAccess hl v, el0Control_ctrAccess hl v, el0Control_zeroBlock hl v, el0Control_rctx hl v,
    el0Control_memoryCopySet hl v, el0Control_setend hl v, el0Control_itBlock hl v, fun hw1 => ?_,
    el0Control_cp15Barrier hl v⟩
  · rw [himpl, ImplDefAccess.reserved, ← Bool.and_assoc]
    rfl
  · rw [el0Control_cacheMaintenance hl, CacheOp.underUci_eq]
    rfl
  · rw [el0Control_afterIt hl, itdDisables_eq]
    rfl

end Sys2Proof.Machine
end

section
/-! SUPPORT. What a wait instruction does, by its control bit and its delay (R163, R165, R516, R570). -/

namespace Sys2Proof.Machine

/-! ## The fields of the wait controls -/

theorem sctlrBit_nTWE (s : State) (v : Dword) : sctlrBit s v .nTWE = (!s.host2 || v.getLsbD 18) :=
  sctlrBit_of_presentIf_res1 v rfl rfl
theorem sctlrBit_nTWI (s : State) (v : Dword) : sctlrBit s v .nTWI = (!s.host2 || v.getLsbD 16) :=
  sctlrBit_of_presentIf_res1 v rfl rfl
theorem sctlrBit_twedEn (s : State) (v : Dword) : sctlrBit s v .twedEn = (s.has .TWED && s.host2 && v.getLsbD 45) :=
  sctlrBit_of_presentIf v rfl rfl

theorem sctlrValue_twedel_of_field {s : State} (v : Dword) (hhost : s.host2 = true) (htwed : s.has .TWED = true) :
    sctlrValue s v .twedel = (v.extractLsb' 46 4).toNat := by
  have hstatus : sctlrStatus s.cfg s.host2 s.host0 .twedel = .field := by
    show presentIf (s.has .TWED && s.host2) _ = _
    rw [htwed, hhost]
    rfl
  rw [sctlrValue, hstatus]
  rfl

/-! ## Trap and delay -/

/-- R317: WFET and WFIT are implemented with FEAT_WFxT. -/
theorem WaitInstr.isImplemented_iff (c : Config) (w : WaitInstr) :
    w.isImplemented c = true ↔ (w = .wfet ∨ w = .wfit → c.has .WFxT = true) := by
  cases w <;> simp [WaitInstr.isImplemented]

theorem WaitInstr.isEvent_eq_false_iff (w : WaitInstr) : w.isEvent = false ↔ w = .wfi ∨ w = .wfit := by
  cases w <;> decide

/-- nTWE and nTWI can trap the instruction: it exists, and is executed at EL0 under a host (R163, R165). -/
def waitControlled (s : State) (w : WaitInstr) : Bool := s.hostEl0 && w.isImplemented s.cfg

theorem waitControlled_iff (s : State) (w : WaitInstr) :
    waitControlled s w = true ↔
      s.pstate.el = .el0 ∧ s.host2 = true ∧ s.hcrEl2.tge = true ∧
        (w = .wfet ∨ w = .wfit → s.has .WFxT = true) := by
  rw [waitControlled, Bool.and_eq_true, s.hostEl0_iff, w.isImplemented_iff, and_assoc, and_assoc]
  rfl

theorem host2_of_waitControlled {s : State} {w : WaitInstr} (h : waitControlled s w = true) : s.host2 = true :=
  State.host2_of_hostEl0 (Bool.and_elim_left h)

/-- nTWE and nTWI are fields in a host, and trap when they are 0. -/
theorem waitTrapped_eq (s : State) (v : Dword) (w : WaitInstr) :
    waitTrapped s v w = (waitControlled s w && !(if w.isEvent then v.getLsbD 18 else v.getLsbD 16)) := by
  rw [waitTrapped, sctlrBit_nTWE, sctlrBit_nTWI]
  cases h : waitControlled s w with
  | false => rw [← waitControlled, h, Bool.false_and, Bool.false_and]
  | true => rw [← waitControlled, h, host2_of_waitControlled h, Bool.not_true, Bool.false_or, Bool.false_or]

/-- R131, R132, R570: the least delay of a WFE or WFET trap in a host. -/
def eventTrapDelay (s : State) (v : Dword) : Nat :=
  if s.has .TWED then
    (if v.getLsbD 45 then 2 ^ ((v.extractLsb' 46 4).toNat + 8) else s.cfg.twedDefaultDelay)
  else 0

theorem trapDelay_of_event {s : State} (v : Dword) {w : WaitInstr} (hhost : s.host2 = true) (hw : w.isEvent = true) :
    trapDelay s v w = eventTrapDelay s v := by
  rw [trapDelay, eventTrapDelay, hw, sctlrBit_twedEn, hhost]
  cases htwed : s.has .TWED with
  | false => rfl
  | true =>
    rw [sctlrValue_twedel_of_field v hhost htwed]
    rfl

/-- A WFI or WFIT trap has no delay (R165). -/
theorem trapDelay_of_not_event (s : State) (v : Dword) {w : WaitInstr} (hw : w.isEvent = false) :
    trapDelay s v w = 0 := by
  rw [trapDelay, hw]
  rfl

/-! ## The outcome -/

/-- Outside the low-power state, or by the draw, the instruction completes (R516). -/
theorem waitOutcome_of_complete (s : State) (v : Dword) (w : WaitInstr) {lowPower mayComplete : Bool}
    (trapsLater : Bool) (h : lowPower = false ∨ mayComplete = true) :
    waitOutcome s v w lowPower mayComplete trapsLater = .complete := by
  rcases h with rfl | rfl
  · rfl
  · cases lowPower <;> rfl

theorem waitOutcome_of_not_controlled {s : State} {w : WaitInstr} (v : Dword) (trapsLater : Bool)
    (h : waitControlled s w = false) : waitOutcome s v w true false trapsLater = .waiting := by
  rw [waitOutcome, waitTrapped_eq, h]
  rfl

/-- WFI and WFIT, which trap at once (R165). -/
theorem waitOutcome_of_not_event {s : State} {w : WaitInstr} (v : Dword) (trapsLater : Bool)
    (h : waitControlled s w = true) (hw : w.isEvent = false) :
    waitOutcome s v w true false trapsLater =
      if v.getLsbD 16 then .waiting else .trapToEl2 s.cfg.trapCodes.ntwi := by
  rw [waitOutcome, waitTrapped_eq, trapDelay_of_not_event s v hw, h, hw]
  cases v.getLsbD 16 <;> simp

/-- WFE and WFET, which trap no earlier than the delay (R163, R570). -/
theorem waitOutcome_of_event {s : State} {w : WaitInstr} (v : Dword) (trapsLater : Bool)
    (h : waitControlled s w = true) (hw : w.isEvent = true) :
    waitOutcome s v w true false trapsLater =
      if v.getLsbD 18 = false ∧ trapsLater = false ∧ eventTrapDelay s v ≤ s.wfeCycles then
        .trapToEl2 s.cfg.trapCodes.ntwe
      else .waiting := by
  rw [waitOutcome, waitTrapped_eq, trapDelay_of_event v (host2_of_waitControlled h) hw, h, hw]
  cases v.getLsbD 18 <;> cases trapsLater <;> simp

/-- Settles O57: completion, then the instructions that no control sees, then each kind of instruction. -/
theorem waitTrapDelay : Obligations.WaitTrapDelay := by
  intro s v w lowPower mayComplete trapsLater
  by_cases hdone : lowPower = false ∨ mayComplete = true
  · rw [if_pos hdone, waitOutcome_of_complete s v w trapsLater hdone]
  · obtain ⟨rfl, rfl⟩ : lowPower = true ∧ mayComplete = false := by simpa using hdone
    rw [if_neg hdone]
    by_cases hcontrolled : waitControlled s w = true
    · rw [if_pos ((waitControlled_iff s w).1 hcontrolled)]
      by_cases hw : w.isEvent = false
      · rw [if_pos (w.isEvent_eq_false_iff.1 hw)]
        exact waitOutcome_of_not_event v trapsLater hcontrolled hw
      · rw [if_neg (mt w.isEvent_eq_false_iff.2 hw)]
        exact waitOutcome_of_event v trapsLater hcontrolled (Bool.eq_true_of_not_eq_false hw)
    · rw [if_neg (mt (waitControlled_iff s w).2 hcontrolled)]
      exact waitOutcome_of_not_controlled v trapsLater (Bool.eq_false_of_not_eq_true hcontrolled)

end Sys2Proof.Machine
end

section
/-! SUPPORT. The return from an exception (R160, R170, R513, R514): which returns are refused, where the PC goes, and
what SCTLR_EL2 makes of the synchronization, for a register with nothing unsynchronized. -/

namespace Sys2Proof.Machine

/-! ## Which returns are refused -/

theorem State.returnRefused_iff (s : State) (target : EL) :
    s.returnRefused target = true ↔
      s.pstate.el = .el0 ∨ s.pstate.el.code < target.code ∨ s.cfg.haveEL target = false ∨
        s.runsA64At target = false := by
  simp only [State.returnRefused, Bool.or_eq_true, beq_iff_eq, decide_eq_true_eq, Bool.not_eq_true', or_assoc]

theorem State.returnRefused_eq_false {s : State} {target : EL} (hsource : s.pstate.el ≠ .el0)
    (hle : target.code ≤ s.pstate.el.code) (hhave : s.cfg.haveEL target = true)
    (hruns : s.runsA64At target = true) : s.returnRefused target = false := by
  simp [State.returnRefused, hsource, hle, hhave, hruns]

theorem State.exceptionReturn_of_refused {s : State}
    (h : s.returnRefused (pstateOfSpsr (s.bank s.pstate.el).spsr).el = true) :
    s.exceptionReturn = .refused .returnOutsideSpec := if_pos h

/-! ## The top-byte rule of TCR_EL1 -/

/-- A bit of TCR_EL1 that is RES0 without its condition acts as stored under it and as 0 otherwise. -/
theorem tcrBit_of_presentIf {s : State} {f : TcrField} {p : Bool} (v v2 : Dword)
    (hf : tcrStatus s.cfg (storedD128 s v2) f = presentIf p .res0) (hw : f.width = 1) :
    tcrBit s v v2 f = (p && v.getLsbD f.lo) := by
  unfold tcrBit tcrValue
  rw [hf, hw]
  cases p with
  | true => exact decide_fieldAt_one v f.lo
  | false => rfl

theorem tcrBit_tbi0 (s : State) (v v2 : Dword) : tcrBit s v v2 .tbi0 = v.getLsbD 37 :=
  tcrBit_of_presentIf (p := true) v v2 rfl rfl
theorem tcrBit_tbi1 (s : State) (v v2 : Dword) : tcrBit s v v2 .tbi1 = v.getLsbD 38 :=
  tcrBit_of_presentIf (p := true) v v2 rfl rfl
theorem tcrBit_tbid0 (s : State) (v v2 : Dword) : tcrBit s v v2 .tbid0 = (s.has .PAuth && v.getLsbD 51) :=
  tcrBit_of_presentIf v v2 rfl rfl
theorem tcrBit_tbid1 (s : State) (v v2 : Dword) : tcrBit s v v2 .tbid1 = (s.has .PAuth && v.getLsbD 52) :=
  tcrBit_of_presentIf v v2 rfl rfl

theorem tbiInstruction_ttbr0 (s : State) (v v2 : Dword) :
    tbiInstruction s v v2 .ttbr0 = (v.getLsbD 37 && !(s.has .PAuth && v.getLsbD 51)) := by
  rw [tbiInstruction, perRegion, perRegion, tcrBit_tbi0, tcrBit_tbid0, ← Bool.and_assoc, Bool.and_self]

theorem tbiInstruction_ttbr1 (s : State) (v v2 : Dword) :
    tbiInstruction s v v2 .ttbr1 = (v.getLsbD 38 && !(s.has .PAuth && v.getLsbD 52)) := by
  rw [tbiInstruction, perRegion, perRegion, tcrBit_tbi1, tcrBit_tbid1, ← Bool.and_assoc, Bool.and_self]

/-- R446, R447. -/
theorem tbiTarget_eq (s : State) (v v2 a : Dword) :
    tbiTarget s v v2 a =
      if a.getLsbD 55 then
        (if v.getLsbD 38 && !(s.has .PAuth && v.getLsbD 52) then a ||| 0xFF00000000000000 else a)
      else (if v.getLsbD 37 && !(s.has .PAuth && v.getLsbD 51) then a &&& 0x00FFFFFFFFFFFFFF else a) := by
  rw [tbiTarget, tbiInstruction_ttbr0, tbiInstruction_ttbr1]
  rfl

/-- R513, for a TCR_EL1 with nothing older in force. -/
theorem State.pcTarget_of_settled {s : State} (a : Dword) (slot : Nat) (hu : s.tcrEl1.unsynced = [])
    (hs : s.tcrEl1.stale = []) : s.pcTarget a slot = tbiTarget s s.tcrEl1.val 0 a := by
  rw [State.pcTarget, State.tcrView, CtlReg.view_of_settled _ _ _ hu hs]

theorem State.usesTcrEl1_iff (s : State) (el : EL) :
    s.usesTcrEl1 el = true ↔ el = .el1 ∨ (el = .el0 ∧ s.host0 = false) := by
  simp only [State.usesTcrEl1, Bool.or_eq_true, Bool.and_eq_true, beq_iff_eq, Bool.not_eq_true']

theorem State.usesTcrEl1_eq_false {s : State} {el : EL}
    (h : el = .el2 ∨ el = .el3 ∨ (el = .el0 ∧ s.host0 = true)) : s.usesTcrEl1 el = false := by
  rcases h with rfl | rfl | ⟨rfl, hhost⟩
  · rfl
  · rfl
  · rw [State.usesTcrEl1, hhost]
    rfl

/-! ## Synchronization -/

theorem sctlrBit_eos (s : State) (v : Dword) : sctlrBit s v .eos = (!s.has .ExS || v.getLsbD 11) :=
  sctlrBit_of_presentIf_res1 v rfl rfl

/-- R170, R561: from EL2, EOS decides. -/
theorem isContextSync_exceptionReturn {s : State} (hen : s.pstate.el = .el2 → s.el2Enabled = true)
    (hu : s.sctlrEl2.unsynced = []) (k : Nat) :
    isContextSync s (s.sctlrView k) (.exceptionReturn s.pstate.el) =
      (s.pstate.el != .el2 || !s.has .ExS || s.sctlrEl2.val.getLsbD 11) := by
  rw [isContextSync, returnSynchronizes, s.sctlrBit_view k .eos hu rfl, sctlrBit_eos]
  by_cases hel : s.pstate.el = .el2
  · rw [hen hel, Bool.not_true, Bool.false_or, Bool.or_assoc]
  · rw [bne_iff_ne.2 hel, Bool.true_or, Bool.true_or, Bool.true_or]

/-- R160: before a return from EL2 the event is added as it is at an exception to EL2. -/
theorem errorSyncAdded_beforeExceptionReturn (s : State) (v : Dword) (n : Nat) :
    errorSyncAdded s v n .beforeExceptionReturn = (s.pstate.el == .el2 && errorSyncAdded s v n .exceptionToEl2) := by
  simp only [errorSyncAdded, IesbPoint.ofEl2, Bool.and_true]
  ac_rfl

/-- R160, outside Debug state. -/
theorem errorSyncAdded_beforeExceptionReturn_sctlrView {s : State} (hen : s.pstate.el = .el2 → s.el2Enabled = true)
    (hu : s.sctlrEl2.unsynced = []) (hd : s.dbgState.halted = false) (k n : Nat) :
    errorSyncAdded s (s.sctlrView k) n .beforeExceptionReturn =
      (s.pstate.el == .el2 && s.has .IESB &&
        (s.has .DoubleFault2 && s.sctlr2El2Nmea || s.sctlrEl2.val.getLsbD 21)) := by
  rw [errorSyncAdded_beforeExceptionReturn, Bool.and_assoc]
  by_cases hel : s.pstate.el = .el2
  · rw [errorSyncAdded_sctlrView (hen hel) hu hd]
  · rw [beq_eq_false_iff_ne.2 hel, Bool.false_and, Bool.false_and]

theorem errorSyncAdded_beforeExceptionReturn_of_ne_el2 {s : State} (hel : s.pstate.el ≠ .el2) (v : Dword) (n : Nat) :
    errorSyncAdded s v n .beforeExceptionReturn = false := by
  rw [errorSyncAdded_beforeExceptionReturn, beq_eq_false_iff_ne.2 hel, Bool.false_and]

/-- Settles O39: `State.exceptionReturn_next` gives the state after the return, of which the PC and the two
synchronizations are read by the lemmas above. -/
theorem returnFromException : Obligations.ReturnFromException := by
  intro s source saved a
  refine ⟨fun h => State.exceptionReturn_of_refused ((s.returnRefused_iff saved.el).2 h), ?_⟩
  intro hsource hle hhave hruns hen hu
  obtain ⟨t, hnext, ht⟩ := s.exceptionReturn_next (State.returnRefused_eq_false hsource hle hhave hruns)
  rw [isContextSync_exceptionReturn hen hu] at ht
  have hpc : t.pc = if s.usesTcrEl1 saved.el then s.pcTarget a (slotReturn + 1) else a := congrArg State.pc ht
  refine ⟨t, errorSyncAdded s (s.sctlrView (slotReturn + 2)) (s.draw (slotReturn + 3)) .beforeExceptionReturn, hnext,
    fun h => ?_, fun h htu hts => ?_,
    fun hd => errorSyncAdded_beforeExceptionReturn_sctlrView hen hu hd _ _,
    fun hel => errorSyncAdded_beforeExceptionReturn_of_ne_el2 hel _ _, ?_⟩
  · rw [hpc, State.usesTcrEl1_eq_false h]
    rfl
  · rw [hpc, (s.usesTcrEl1_iff saved.el).2 h, if_pos rfl, State.pcTarget_of_settled a _ htu hts]
    exact tbiTarget_eq ..
  · rw [hpc]
    exact ht

end Sys2Proof.Machine
end

section
/-! SUPPORT. What an accessor does by the outcome of its checks, said with the shapes of an outcome, and the accessors
under the names SCTLR_EL2 and SCTLR_EL1 (R191 to R195). -/

namespace Sys2Proof.Machine

/-! ## What an MRS and an MSR of a register do -/

/-- What an MRS of the register into X`rt` does. -/
def ReadsReg (s t : State) (rt : Nat) : SysReg → Prop
  | .sctlrEl2 name => ReadsSctlrEl2 s t rt name
  | .tcrEl1 name => ReadsTcrEl1 s t rt name
  | .tcr2El1 name => ReadsTcr2El1 s t rt name
  | r => ReadsInto s t rt (s.readReg r)

/-- What an MSR of X`rt` to the register under the write mask `m` does; an ID register has no write form. -/
def WritesReg (s t : State) (rt : Nat) (m : Dword) : SysReg → Prop
  | .sctlrEl2 name => WritesSctlrEl2 s t rt name m
  | .sctlrEl1 =>
    WritesPlain s t (fun s v => { s with sctlrEl1 := v }) (maskedWrite (s.readX rt) s.sctlrEl1 m)
  | .hfgrtr2El2 =>
    if s.cfg.haveEL2 then
      WritesOwned s t (fun s r => { s with hfgrtr2El2 := r }) s.hfgrtr2El2 t.hfgrtr2El2 false false .unpaired
        ((hfgrtr2Constants s.cfg).apply (s.readX rt)) ((hfgrtr2Constants s.cfg).maskOnStorage m)
    else ChangesNothing s t
  | .tcrEl1 name => WritesTcrEl1 s t rt name m
  | .tcrEl2 => WritesPlain s t (fun s v => { s with tcrEl2 := v }) (maskedWrite (s.readX rt) s.tcrEl2 m)
  | .tcr2El1 name => WritesTcr2El1 s t rt name m
  | .tcr2El2 => WritesPlain s t (fun s v => { s with tcr2El2 := v }) (maskedWrite (s.readX rt) s.tcr2El2 m)
  | _ => ChangesNothing s t

theorem State.readReg_sctlrEl1 (s : State) : s.readReg .sctlrEl1 = s.sctlrEl1 := rfl

theorem State.orderRead_readsReg (s : State) (r : SysReg) (rt : Nat) :
    ReadsReg s ((s.orderRead r).writeX rt (s.readReg r)).retire rt r := by
  cases r with
  | sctlrEl2 name => exact s.orderRead_sctlrEl2_reads name rt
  | tcrEl1 name => exact s.orderRead_tcrEl1_reads name rt
  | tcr2El1 name => exact s.orderRead_tcr2El1_reads name rt
  | _ => exact s.writeX_retire_readsInto rt _

theorem State.writeReg_writesReg (s : State) (r : SysReg) (rt : Nat) (m : Dword) :
    WritesReg s (s.writeReg r (s.readX rt) m).retire rt m r := by
  cases r with
  | sctlrEl2 name => exact s.writeReg_sctlrEl2 name rt m
  | hfgrtr2El2 =>
    unfold WritesReg State.writeReg
    cases s.cfg.haveEL2 with
    | false => exact ⟨rfl, fun _ => rfl⟩
    | true => exact ⟨s.hfgrtr2El2.directWrite_inOrder .., rfl, fun _ => rfl⟩
  | tcrEl1 name => exact s.writeReg_tcrEl1 name rt m
  | tcr2El1 name => exact s.writeReg_tcr2El1 name rt m
  | _ => exact ⟨rfl, fun _ => rfl⟩

/-! ## The outcome of the checks -/

/-- What the MRS `i` does when its checks end in an outcome. -/
def ReadEnds (i : Instr) (s t : State) : Access → Prop
  | .undefined => IsUndefined s t
  | .trap target => TrapsTo s t target (encode i)
  | .nvMem offset => ReadsNvMem s t i.rt offset
  | .register r _ => ReadsReg s t i.rt r

/-- What the MSR `i` does when its checks end in an outcome; what a store leaves in memory is said of canonical
memory. -/
def WriteEnds (i : Instr) (s t : State) : Access → Prop
  | .undefined => IsUndefined s t
  | .trap target => TrapsTo s t target (encode i)
  | .nvMem offset => s.mem.wf = true → StoresNvMem s t i.rt (s.nvMemBase + offset)
  | .register r m => WritesReg s t i.rt m r

section
variable {i : Instr} {s t : State}

@[simp] theorem readEnds_undefined : ReadEnds i s t .undefined = IsUndefined s t := rfl
@[simp] theorem readEnds_trap (target : EL) : ReadEnds i s t (.trap target) = TrapsTo s t target (encode i) := rfl
@[simp] theorem readEnds_nvMem (offset : Dword) : ReadEnds i s t (.nvMem offset) = ReadsNvMem s t i.rt offset := rfl
@[simp] theorem readEnds_register (r : SysReg) (m : Dword) :
    ReadEnds i s t (.register r m) = ReadsReg s t i.rt r := rfl
@[simp] theorem readEnds_ite (c : Prop) [Decidable c] (a b : Access) :
    ReadEnds i s t (if c then a else b) = if c then ReadEnds i s t a else ReadEnds i s t b := apply_ite ..

@[simp] theorem writeEnds_undefined : WriteEnds i s t .undefined = IsUndefined s t := rfl
@[simp] theorem writeEnds_trap (target : EL) : WriteEnds i s t (.trap target) = TrapsTo s t target (encode i) := rfl
@[simp] theorem writeEnds_nvMem (offset : Dword) :
    WriteEnds i s t (.nvMem offset) = (s.mem.wf = true → StoresNvMem s t i.rt (s.nvMemBase + offset)) := rfl
@[simp] theorem writeEnds_register (r : SysReg) (m : Dword) :
    WriteEnds i s t (.register r m) = WritesReg s t i.rt m r := rfl
@[simp] theorem writeEnds_ite (c : Prop) [Decidable c] (a b : Access) :
    WriteEnds i s t (if c then a else b) = if c then WriteEnds i s t a else WriteEnds i s t b := apply_ite ..

end

/-- Every MRS completes, as the outcome of its checks says. -/
theorem performRead_ends (i : Instr) {a : Access} {s : State} (ha : a.Takeable s) :
    ∃ t, performRead i a s = .next t ∧ ReadEnds i s t a := by
  cases a with
  | undefined => exact ⟨_, rfl, s.takeUndefined_isUndefined⟩
  | trap target => exact ⟨_, rfl, s.systemAccessTrap_trapsTo target _ ha.1⟩
  | nvMem offset => exact ⟨_, rfl, s.nvMem_reads _ _⟩
  | register r m => exact ⟨_, rfl, s.orderRead_readsReg r _⟩

/-- Every MSR completes, as the outcome of its checks says. -/
theorem performWrite_ends (i : Instr) {a : Access} {s : State} (ha : a.Takeable s) :
    ∃ t, performWrite i a s = .next t ∧ WriteEnds i s t a := by
  cases a with
  | undefined => exact ⟨_, rfl, s.takeUndefined_isUndefined⟩
  | trap target => exact ⟨_, rfl, s.systemAccessTrap_trapsTo target _ ha.1⟩
  | nvMem offset => exact ⟨_, rfl, s.nvMem_stores _ _⟩
  | register r m => exact ⟨_, rfl, s.writeReg_writesReg r _ m⟩

/-- Two traps in a row to one level are one trap. -/
theorem ite_trap_trap {α : Type} (e b c : Bool) (x y : α) :
    (if e && b then x else if e && c then x else y) = if e && (b || c) then x else y := by
  cases e <;> cases b <;> rfl

/-- The frame that every accessor but the ID reads has: UNDEFINED where it is absent and at EL0, and one course for
each level above. -/
theorem course_ends {s : State} {present : Bool} {a1 a2 a3 : Access} {Ends : Access → Prop}
    (h : Ends (if !present then .undefined
      else
        match s.pstate.el with
        | .el0 => .undefined
        | .el1 => a1
        | .el2 => a2
        | .el3 => a3)) :
    if present = false ∨ s.pstate.el = .el0 then Ends .undefined
    else if s.pstate.el = .el1 then Ends a1
    else if s.pstate.el = .el2 then Ends a2
    else Ends a3 := by
  cases present with
  | false => exact h
  | true =>
    cases hl : s.pstate.el <;> simpa [hl] using h

/-! ## The accessors of SCTLR_EL2 -/

/-- Settles O11: the checks end level by level in the register, in a trap or in UNDEFINED. -/
theorem mrsSctlrEl2 : Obligations.MrsSctlrEl2 := by
  intro s rt
  obtain ⟨t, ht, hends⟩ := performRead_ends (.mrsSctlrEl2 rt) (accessMrsSctlrEl2_takeable s)
  have hlevels := course_ends hends
  exact ⟨t, ht, by simpa [State.nvTraps, ReadsReg, Instr.rt] using hlevels⟩

/-- Settles O12: as the MRS, with the write mask at EL2. -/
theorem msrSctlrEl2 : Obligations.MsrSctlrEl2 := by
  intro s rt
  obtain ⟨t, ht, hends⟩ := performWrite_ends (.msrSctlrEl2 rt) (accessMsrSctlrEl2_takeable s)
  have hlevels := course_ends hends
  exact ⟨t, ht, by simpa [State.nvTraps, State.srMask, WritesReg, Instr.rt] using hlevels⟩

/-- Settles O13: at EL1 the two traps come before NVMem and the register; in a host the name reaches SCTLR_EL2. -/
theorem mrsSctlrEl1 : Obligations.MrsSctlrEl1 := by
  intro s rt
  obtain ⟨t, ht, hends⟩ := performRead_ends (.mrsSctlrEl1 rt) (accessMrsSctlrEl1_takeable s)
  have hlevels := course_ends hends
  rw [Bool.and_assoc, ite_trap_trap] at hlevels
  exact ⟨t, ht, by simpa [State.fgtActive, ite_and, ReadsReg, State.readReg_sctlrEl1, Instr.rt] using hlevels⟩

/-- Settles O14: as the MRS, with the write masks, none where SCTLR_EL1 is written from EL2 or EL3. -/
theorem msrSctlrEl1 : Obligations.MsrSctlrEl1 := by
  intro s rt hmem
  obtain ⟨t, ht, hends⟩ := performWrite_ends (.msrSctlrEl1 rt) (accessMsrSctlrEl1_takeable s)
  have hlevels := course_ends hends
  rw [Bool.and_assoc, ite_trap_trap] at hlevels
  simp only [writeEnds_ite, writeEnds_register, WritesReg, maskedWrite_zero_mask] at hlevels
  exact ⟨t, ht, by simpa [State.fgtActive, State.srMask, ite_and, Instr.rt, hmem] using hlevels⟩

end Sys2Proof.Machine
end

section
/-! SUPPORT. Two names of one register (R190, R560): what a run of writes under one mask comes to, and which of the
values written a read under a name finds. -/

namespace Sys2Proof.Machine

/-! ## Masked writes (R195) -/

theorem maskedWrite_bit (v old m : Dword) (i : Nat) :
    (maskedWrite v old m).getLsbD i = if m.getLsbD i then old.getLsbD i else v.getLsbD i := by
  rw [maskedWrite_eq_mergeBits, mergeBits_bit]

/-- A write under a mask leaves nothing of an earlier one under that mask. -/
theorem maskedWrite_maskedWrite (v v' old m : Dword) :
    maskedWrite v (maskedWrite v' old m) m = maskedWrite v old m := by
  refine BitVec.eq_of_getLsbD_eq fun i _ => ?_
  simp only [maskedWrite_bit]
  split <;> rfl

/-- A write mask of all ones keeps the old value. -/
theorem maskedWrite_allOnes_mask (v old : Dword) : maskedWrite v old (BitVec.allOnes 64) = old := by
  rw [maskedWrite, BitVec.not_allOnes, BitVec.and_zero, BitVec.zero_or, BitVec.and_allOnes]

/-- Settles O35, bit by bit. -/
theorem maskedWriteBits : Obligations.MaskedWriteBits := by
  intro v old m
  exact ⟨fun i _ => maskedWrite_bit v old m i, maskedWrite_zero_mask v old, maskedWrite_allOnes_mask v old,
    maskedWrite_maskedWrite v v old m⟩

/-! ## Runs of writes under one mask -/

/-- The access is a write of one of `vs` that keeps the bits of `m`. -/
def NamedAccess.WritesOneOf (vs : List Dword) (m : Dword) (e : NamedAccess) : Prop :=
  ∃ name, ∃ v ∈ vs, e = .wrote name v m

/-- A run of writes under one mask comes to one of them alone. -/
theorem replay_writesOneOf {vs : List Dword} {m base : Dword} {l : List NamedAccess}
    (hl : ∀ e ∈ l, e.WritesOneOf vs m) (hne : l ≠ []) : ∃ v ∈ vs, replay base l = maskedWrite v base m := by
  induction l generalizing base with
  | nil => exact absurd rfl hne
  | cons e l ih =>
    obtain ⟨⟨name, v, hv, rfl⟩, hrest⟩ := List.forall_mem_cons.1 hl
    rcases eq_or_ne l [] with rfl | hne
    · exact ⟨v, hv, rfl⟩
    · obtain ⟨v', hv', hreplay⟩ := ih (base := maskedWrite v base m) hrest hne
      exact ⟨v', hv', hreplay.trans (maskedWrite_maskedWrite v' v base m)⟩

/-- An access under a name stands in the part of a run that the accesses under that name reach into. -/
theorem ownEnd_pos {name : AccessName} {l : List NamedAccess} (h : ∃ e ∈ l, e.name = name) : 0 < ownEnd name l := by
  induction l with
  | nil => simp at h
  | cons e l ih =>
    unfold ownEnd
    split
    · rename_i hnone
      simp only [Bool.and_eq_true, decide_eq_true_eq, bne_iff_ne] at hnone
      obtain ⟨a, ha, hname⟩ := h
      rcases List.mem_cons.1 ha with rfl | ha
      · exact absurd hname hnone.2
      · exact absurd hnone.1 (ih ⟨a, ha, hname⟩).ne'
    · exact Nat.succ_pos _

/-! ## Accesses in flight under two names -/

/-- The accesses in flight are writes of `vs` under the mask `m` to a register that was `old` before them. -/
structure CtlReg.InFlight (old m : Dword) (vs : List Dword) (r : CtlReg) : Prop where
  base : r.base = old
  writes : ∀ e ∈ r.tail, e.WritesOneOf vs m

/-- A name has an access in flight. -/
def CtlReg.HasAccess (r : CtlReg) (name : AccessName) : Prop := ∃ e ∈ r.tail, e.name = name

theorem inOrder_of_paired {name : AccessName} (hname : name ≠ .unpaired) : inOrder true name = false := by
  simp [inOrder, hname]

section
variable {r r' : CtlReg} {name other : AccessName} {old m value : Dword} {vs : List Dword}

theorem CtlReg.inFlight_of_tail_nil (ht : r.tail = []) (m : Dword) (vs : List Dword) : r.InFlight r.val m vs where
  base := by simp [CtlReg.val, replay, ht]
  writes := by simp [ht]

/-- With at least one write in flight the register holds one of the values written. -/
theorem CtlReg.InFlight.val_mem (h : r.InFlight old m vs) (hown : r.HasAccess name) :
    r.val ∈ vs.map (maskedWrite · old m) := by
  obtain ⟨e, he, -⟩ := hown
  obtain ⟨v, hv, hval⟩ := replay_writesOneOf (base := r.base) h.writes (List.ne_nil_of_mem he)
  exact List.mem_map.2 ⟨v, hv, h.base ▸ hval.symm⟩

/-- A write under a name of a pair joins the accesses in flight. -/
theorem WrittenInOrder.of_paired {cacheable : Bool} (h : WrittenInOrder r r' cacheable true name value m)
    (hname : name ≠ .unpaired) :
    r'.base = r.base ∧ ∀ e, e ∈ r'.tail ↔ e = .wrote name value m ∨ e ∈ r.tail := by
  obtain ⟨horder, -, -⟩ := h
  rw [inOrder_of_paired hname] at horder
  obtain ⟨hbase, k, -, -, htail, -⟩ := horder
  refine ⟨hbase, fun e => ?_⟩
  conv_rhs => rw [← r.tail.take_append_drop k, List.mem_append]
  rw [htail, List.mem_append, List.mem_cons, or_left_comm]

theorem CtlReg.InFlight.write {cacheable : Bool} (h : r.InFlight old m vs) (hvalue : value ∈ vs)
    (hw : WrittenInOrder r r' cacheable true name value m) (hname : name ≠ .unpaired) : r'.InFlight old m vs := by
  obtain ⟨hbase, htail⟩ := hw.of_paired hname
  refine ⟨hbase.trans h.base, fun e he => ?_⟩
  rcases (htail e).1 he with rfl | he
  · exact ⟨name, value, hvalue, rfl⟩
  · exact h.writes e he

theorem WrittenInOrder.hasAccess {cacheable : Bool} (h : WrittenInOrder r r' cacheable true name value m)
    (hname : name ≠ .unpaired) : r'.HasAccess name :=
  ⟨_, ((h.of_paired hname).2 _).2 (.inl rfl), rfl⟩

theorem WrittenInOrder.keeps_hasAccess {cacheable : Bool} (h : WrittenInOrder r r' cacheable true name value m)
    (hname : name ≠ .unpaired) (hacc : r.HasAccess other) : r'.HasAccess other := by
  obtain ⟨e, he, hother⟩ := hacc
  exact ⟨e, ((h.of_paired hname).2 e).2 (.inr he), hother⟩

/-- A read under a name finds the old value, or one of those written. -/
theorem CtlReg.InFlight.read {v : Dword} (h : r.InFlight old m vs) (hname : name ≠ .unpaired)
    (hr : ReadInOrder r r' true name v) : v = old ∧ ¬ r.HasAccess name ∨ v ∈ vs.map (maskedWrite · old m) := by
  unfold ReadInOrder at hr
  rw [inOrder_of_paired hname] at hr
  obtain ⟨k, hown, hk, rfl, -⟩ := hr
  rcases eq_or_ne (r.tail.take k) [] with hnil | hne
  · rw [hnil]
    refine .inl ⟨h.base, fun hacc => ?_⟩
    have hpos := ownEnd_pos hacc
    have hlen := congrArg List.length hnil
    rw [List.length_take, List.length_nil] at hlen
    omega
  · obtain ⟨v, hv, hval⟩ := replay_writesOneOf (base := r.base)
      (fun e he => h.writes e (List.mem_of_mem_take he)) hne
    exact .inr (List.mem_map.2 ⟨v, hv, h.base ▸ hval.symm⟩)

end

end Sys2Proof.Machine
end

section
/-! SUPPORT. A write and a read after it: by one name at EL3 (R561), and by the two names of one register in a host
(R190, R399, R478, R560). -/

namespace Sys2Proof.Machine

/-! ## What a write of a register leaves as it is -/

/-- Two states with the same inputs, flags and general registers. -/
structure State.SameContext (s t : State) : Prop where
  inputs : t.inputs = s.inputs
  pstate : t.pstate = s.pstate
  x : t.x = s.x

section
variable {s t u : State}

theorem State.SameContext.refl (s : State) : s.SameContext s := ⟨rfl, rfl, rfl⟩

theorem State.SameContext.trans (h : s.SameContext t) (h' : t.SameContext u) : s.SameContext u :=
  ⟨h'.inputs.trans h.inputs, h'.pstate.trans h.pstate, h'.x.trans h.x⟩

theorem State.SameContext.cfg (h : s.SameContext t) : t.cfg = s.cfg := congrArg Inputs.cfg h.inputs

theorem State.SameContext.masks (h : s.SameContext t) : t.masks = s.masks := congrArg Inputs.masks h.inputs

theorem State.SameContext.has (h : s.SameContext t) (f : Feature) : t.has f = s.has f := by
  rw [State.has, State.has, h.cfg]

theorem State.SameContext.level (h : s.SameContext t) : t.pstate.el = s.pstate.el := congrArg PState.el h.pstate

theorem State.SameContext.readX (h : s.SameContext t) (rt : Nat) : t.readX rt = s.readX rt := State.readX_congr h.x rt

theorem State.SameContext.elIsInHost (h : s.SameContext t) (el : EL) : t.elIsInHost el = s.elIsInHost el := by
  unfold State.elIsInHost State.hostPossible State.el2Enabled
  rw [h.has, h.cfg, show t.el2Aarch32 = s.el2Aarch32 from congrArg Inputs.el2Aarch32 h.inputs,
    show t.scrEl3 = s.scrEl3 from congrArg Inputs.scrEl3 h.inputs,
    show t.hcrEl2 = s.hcrEl2 from congrArg Inputs.hcrEl2 h.inputs]

theorem State.SameContext.host2 (h : s.SameContext t) : t.host2 = s.host2 := h.elIsInHost .el2

theorem State.SameContext.host0 (h : s.SameContext t) : t.host0 = s.host0 := h.elIsInHost .el0

end

@[simp] theorem State.writeReg_x (s : State) (r : SysReg) (v m : Dword) : (s.writeReg r v m).x = s.x := by
  obtain ⟨_, _, _, _, _, _, _, h⟩ := s.writeReg_frame r v m
  rw [h]

theorem State.sameContext_writeReg (s : State) (r : SysReg) (v m : Dword) :
    s.SameContext (s.writeReg r v m).retire where
  inputs := by simp
  pstate := by simp
  x := by simp

/-! ## The names that reach a register -/

/-- No level is in a host without FEAT_VHE. -/
theorem State.has_vhe_of_host2 {s : State} (h : s.host2 = true) : s.has .VHE = true := by
  simp only [State.host2, State.elIsInHost, State.hostPossible, Bool.and_eq_true] at h
  exact h.1.1.1

/-- From `s` on, as long as only registers are written, `msr` writes the register under the mask and `mrs` reads it. -/
structure NameReaches (s : State) (r : SysReg) (mask : Dword) (msr mrs : Nat → Instr) : Prop where
  mrs_rt : ∀ rt, (mrs rt).rt = rt
  write : ∀ {t}, s.SameContext t → ∀ rt, exec (msr rt) t = .next (t.writeReg r (t.readX rt) mask).retire
  read : ∀ {t}, s.SameContext t → ∀ rt,
    exec (mrs rt) t = .next ((t.orderRead r).writeX rt (t.readReg r)).retire

section
variable {s : State} (haa : s.has .AA64 = true)
include haa

theorem nameReaches_sctlrEl2_el3 (hl : s.pstate.el = .el3) :
    NameReaches s (.sctlrEl2 .first) 0 .msrSctlrEl2 .mrsSctlrEl2 where
  mrs_rt _ := rfl
  write ht rt := exec_msrSctlrEl2_el3 rt (ht.has _ ▸ haa) (ht.level ▸ hl)
  read {t} ht rt := congrArg (performRead (.mrsSctlrEl2 rt) · t)
    (show accessMrsSctlrEl2 t = .register (.sctlrEl2 .first) 0 by simp [accessMrsSctlrEl2, ht.has, ht.level, haa, hl])

theorem nameReaches_hfgrtr2El2_el3 (hfgt2 : s.has .FGT2 = true) (hl : s.pstate.el = .el3) :
    NameReaches s .hfgrtr2El2 0 .msrHfgrtr2El2 .mrsHfgrtr2El2 where
  mrs_rt _ := rfl
  write ht rt := exec_msrHfgrtr2El2_el3 rt (ht.has _ ▸ haa) (ht.has _ ▸ hfgt2) (ht.level ▸ hl)
  read {t} ht rt := congrArg (performRead (.mrsHfgrtr2El2 rt) · t)
    (show accessHfgrtr2El2 t = .register .hfgrtr2El2 0 by
      simp [accessHfgrtr2El2, ht.has, ht.level, haa, hfgt2, hl])

theorem nameReaches_tcrEl1_el3 (hl : s.pstate.el = .el3) :
    NameReaches s (.tcrEl1 .first) 0 .msrTcrEl1 .mrsTcrEl1 where
  mrs_rt _ := rfl
  write ht rt := exec_msrTcrEl1_el3 rt (ht.has _ ▸ haa) (ht.level ▸ hl)
  read {t} ht rt := congrArg (performRead (.mrsTcrEl1 rt) · t)
    (show accessMrsTcrEl1 t = .register (.tcrEl1 .first) 0 by simp [accessMrsTcrEl1, ht.has, ht.level, haa, hl])

theorem nameReaches_tcr2El1_el3 (htcr2 : s.has .TCR2 = true) (hl : s.pstate.el = .el3) :
    NameReaches s (.tcr2El1 .first) 0 .msrTcr2El1 .mrsTcr2El1 where
  mrs_rt _ := rfl
  write ht rt := exec_msrTcr2El1_el3 rt (ht.has _ ▸ haa) (ht.has _ ▸ htcr2) (ht.level ▸ hl)
  read {t} ht rt := congrArg (performRead (.mrsTcr2El1 rt) · t)
    (show accessMrsTcr2El1 t = .register (.tcr2El1 .first) 0 by
      simp [accessMrsTcr2El1, tcr2Absent, ht.has, ht.level, haa, htcr2, hl])

theorem nameReaches_sctlrEl2_el2 (hl : s.pstate.el = .el2) :
    NameReaches s (.sctlrEl2 .first) (s.srMask s.masks.sctlrEl2) .msrSctlrEl2 .mrsSctlrEl2 where
  mrs_rt _ := rfl
  write {t} ht rt := congrArg (performWrite (.msrSctlrEl2 rt) · t)
    (show accessMsrSctlrEl2 t = .register (.sctlrEl2 .first) (s.srMask s.masks.sctlrEl2) by
      simp [accessMsrSctlrEl2, State.srMask, ht.has, ht.level, ht.masks, haa, hl])
  read {t} ht rt := congrArg (performRead (.mrsSctlrEl2 rt) · t)
    (show accessMrsSctlrEl2 t = .register (.sctlrEl2 .first) 0 by simp [accessMrsSctlrEl2, ht.has, ht.level, haa, hl])

/-! In a host the other name of each pair reaches the register too. -/

variable (hhost : s.host2 = true)
include hhost

theorem nameReaches_sctlrEl1_el2 (hl : s.pstate.el = .el2) :
    NameReaches s (.sctlrEl2 .second) (s.srMask s.masks.sctlrEl2) .msrSctlrEl1 .mrsSctlrEl1 where
  mrs_rt _ := rfl
  write {t} ht rt := congrArg (performWrite (.msrSctlrEl1 rt) · t)
    (show accessMsrSctlrEl1 t = .register (.sctlrEl2 .second) (s.srMask s.masks.sctlrEl2) by
      simp [accessMsrSctlrEl1, State.srMask, ht.has, ht.level, ht.host2, ht.masks, haa, hl, hhost])
  read {t} ht rt := congrArg (performRead (.mrsSctlrEl1 rt) · t)
    (show accessMrsSctlrEl1 t = .register (.sctlrEl2 .second) 0 by
      simp [accessMrsSctlrEl1, ht.has, ht.level, ht.host2, haa, hl, hhost])

theorem accessTcrEl12_el3 (hl : s.pstate.el = .el3) : accessTcrEl12 s = .register (.tcrEl1 .second) 0 := by
  simp [accessTcrEl12, haa, hl, hhost, State.has_vhe_of_host2 hhost]

theorem accessTcr2El12_el3 (htcr2 : s.has .TCR2 = true) (hl : s.pstate.el = .el3) :
    accessTcr2El12 s = .register (.tcr2El1 .second) 0 := by
  simp [accessTcr2El12, tcr2Absent, haa, htcr2, hl, hhost, State.has_vhe_of_host2 hhost]

theorem nameReaches_tcrEl12_el3 (hl : s.pstate.el = .el3) :
    NameReaches s (.tcrEl1 .second) 0 .msrTcrEl12 .mrsTcrEl12 where
  mrs_rt _ := rfl
  write {t} ht rt := congrArg (performWrite (.msrTcrEl12 rt) · t)
    (accessTcrEl12_el3 (ht.has _ ▸ haa) (ht.host2 ▸ hhost) (ht.level ▸ hl))
  read {t} ht rt := congrArg (performRead (.mrsTcrEl12 rt) · t)
    (accessTcrEl12_el3 (ht.has _ ▸ haa) (ht.host2 ▸ hhost) (ht.level ▸ hl))

theorem nameReaches_tcr2El12_el3 (htcr2 : s.has .TCR2 = true) (hl : s.pstate.el = .el3) :
    NameReaches s (.tcr2El1 .second) 0 .msrTcr2El12 .mrsTcr2El12 where
  mrs_rt _ := rfl
  write {t} ht rt := congrArg (performWrite (.msrTcr2El12 rt) · t)
    (accessTcr2El12_el3 (ht.has _ ▸ haa) (ht.host2 ▸ hhost) (ht.has _ ▸ htcr2) (ht.level ▸ hl))
  read {t} ht rt := congrArg (performRead (.mrsTcr2El12 rt) · t)
    (accessTcr2El12_el3 (ht.has _ ▸ haa) (ht.host2 ▸ hhost) (ht.has _ ▸ htcr2) (ht.level ▸ hl))

end

section
variable {s t : State} {r : SysReg} {mask : Dword} {msr mrs : Nat → Instr}

theorem NameReaches.exec_write (h : NameReaches s r mask msr mrs) (ht : s.SameContext t) (rt : Nat) :
    ∃ t', exec (msr rt) t = .next t' ∧ s.SameContext t' ∧ WritesReg t t' rt mask r :=
  ⟨_, h.write ht rt, ht.trans (t.sameContext_writeReg ..), t.writeReg_writesReg r rt mask⟩

theorem NameReaches.exec_read (h : NameReaches s r mask msr mrs) (ht : s.SameContext t) (rt : Nat) :
    ∃ u, exec (mrs rt) t = .next u ∧ ReadsReg t u rt r :=
  ⟨_, h.read ht rt, t.orderRead_readsReg r rt⟩

theorem NameReaches.exec_write_read (h : NameReaches s r mask msr mrs) (rt rt' : Nat) :
    ∃ t u, exec (msr rt) s = .next t ∧ exec (mrs rt') t = .next u ∧ s.SameContext t ∧ WritesReg s t rt mask r ∧
      ReadsReg t u rt' r := by
  obtain ⟨t, ht, hsame, hw⟩ := h.exec_write (.refl s) rt
  obtain ⟨u, hu, hr⟩ := h.exec_read hsame rt'
  exact ⟨t, u, ht, hu, hsame, hw, hr⟩

end

/-! ## One name (R561) -/

section
variable {r r' r'' : CtlReg} {cacheable hazard hazard' : Bool} {name : AccessName} {value mask v : Dword}

/-- Where nothing in flight stands after the accesses under its own name, a read finds the stored value. -/
theorem ReadInOrder.eq_val (h : ReadInOrder r r' hazard name v) (hown : ownEnd name r.tail = r.tail.length) :
    v = r.val := by
  unfold ReadInOrder at h
  split at h
  · exact h.1
  · obtain ⟨k, hk, -, rfl, -⟩ := h
    rw [List.take_of_length_le (hown ▸ hk)]
    rfl

/-- In order with all other accesses, and with none in flight, a read leaves the register as it is. -/
theorem ReadInOrder.eq_self (h : ReadInOrder r r' false name v) (ht : r.tail = []) : r' = r := by
  obtain ⟨-, rfl⟩ := h
  have hval : r.val = r.base := by simp [CtlReg.val, replay, ht]
  rw [hval, ← ht]

theorem WrittenInOrder.of_inOrder (h : WrittenInOrder r r' cacheable hazard name value mask)
    (ho : inOrder hazard name = true) : r'.val = maskedWrite value r.val mask ∧ r'.tail = [] := by
  obtain ⟨horder, -, -⟩ := h
  rw [if_pos ho] at horder
  obtain ⟨hbase, htail⟩ := horder
  exact ⟨by simp [CtlReg.val, replay, htail, hbase], htail⟩

/-- A read by the name of an unmasked write returns what was written, where the write was in order with all other
accesses or no other was in flight. -/
theorem WrittenInOrder.read_back (h : WrittenInOrder r r' cacheable hazard name value 0)
    (hlast : inOrder hazard name = true ∨ r.tail = []) (hr : ReadInOrder r' r'' hazard' name v) : v = value := by
  rcases hlast with ho | ht
  · obtain ⟨hval, htail⟩ := h.of_inOrder ho
    rw [hr.eq_val (by simp [htail, ownEnd]), hval, maskedWrite_zero_mask]
  · have hown : ownEnd name r'.tail = r'.tail.length := by
      rcases h.of_tail_nil ht with ⟨-, htail⟩ | ⟨-, htail⟩ <;> simp [htail, ownEnd, NamedAccess.name]
    rw [hr.eq_val hown, h.val_of_tail_nil ht, maskedWrite_zero_mask]

end

/-- Settles O58: a write and a read by one name, register by register. -/
theorem writesReadBack : Obligations.WritesReadBack := by
  intro s rt rt' haa hl hel2
  refine ⟨?_, fun hfgt2 => ?_, fun htcr2 htail => ?_, fun htail => ?_⟩
  · obtain ⟨t, u, ht, hu, hsame, hw, hr⟩ := (nameReaches_sctlrEl2_el3 haa hl).exec_write_read rt rt'
    refine ⟨t, u, ht, hu, ?_⟩
    have ho : inOrder (s.pstate.el == .el2 && s.host2) .first = true := by simp [inOrder, hl]
    have hazard : (t.pstate.el == .el2 && t.host2) = false := by simp [hsame.level, hl]
    simp only [WritesReg, WritesSctlrEl2, hel2, if_true, ConstantBits.maskOnStorage_zero] at hw
    simp only [ReadsReg, ReadsSctlrEl2, hsame.cfg ▸ hel2, if_true, hazard] at hr
    obtain ⟨hwritten, -⟩ := hw
    obtain ⟨v, horder, hreads⟩ := hr
    rw [horder.eq_self (hwritten.of_inOrder ho).2] at hreads
    rw [← ConstantBits.apply_apply, ← hwritten.read_back (.inl ho) horder, ← hsame.cfg, ← hsame.host2, ← hsame.host0]
    exact hreads
  · obtain ⟨t, u, ht, hu, hsame, hw, hr⟩ := (nameReaches_hfgrtr2El2_el3 haa hfgt2 hl).exec_write_read rt rt'
    refine ⟨t, u, ht, hu, ?_⟩
    simp only [WritesReg, hel2, if_true, ConstantBits.maskOnStorage_zero] at hw
    obtain ⟨hwritten, -⟩ := hw
    obtain ⟨hval, -⟩ := hwritten.of_inOrder rfl
    simpa only [ReadsReg, State.readReg, State.readBack, State.storedValue, hsame.cfg, hel2, if_true, hval,
      maskedWrite_zero_mask, ConstantBits.apply_apply] using hr
  · obtain ⟨t, u, ht, hu, hsame, hw, v, horder, hreads⟩ :=
      (nameReaches_tcr2El1_el3 haa htcr2 hl).exec_write_read rt rt'
    refine ⟨t, u, ht, hu, ?_⟩
    simp only [WritesReg, WritesTcr2El1, ConstantBits.maskOnStorage_zero] at hw
    obtain ⟨hwritten, -⟩ := hw
    rw [← ConstantBits.apply_apply, ← hwritten.read_back (.inr htail) horder, ← hsame.cfg]
    exact hreads
  · obtain ⟨t, u, ht, hu, hsame, hw, v, horder, hreads⟩ := (nameReaches_tcrEl1_el3 haa hl).exec_write_read rt rt'
    refine ⟨t, u, ht, hu, ?_⟩
    simp only [WritesReg, WritesTcrEl1, ConstantBits.maskOnStorage_zero] at hw
    obtain ⟨hwritten, -⟩ := hw
    rw [← hwritten.read_back (.inr htail) horder, ← hsame.cfg]
    exact hreads

/-! ## Two names (R190, R399, R478, R560) -/

/-- From `s` on, as long as only registers are written, the accesses under the two names of a register are unordered
with each other: `r` gives the register by the name, `reg` and `set` its place in the state, `k` its constants and
`back` what a read returns. -/
structure PairedRegister (s : State) (reg : State → CtlReg) (set : State → CtlReg → State) (k : ConstantBits)
    (back : Dword → Dword) (r : AccessName → SysReg) : Prop where
  write : ∀ {t t' rt m name}, s.SameContext t → WritesReg t t' rt m (r name) →
    WrittenInOrder (reg t) (reg t') true true name (k.apply (s.readX rt)) (k.maskOnStorage m)
  read : ∀ {t u rt name}, s.SameContext t → ReadsReg t u rt (r name) →
    ∃ v, ReadInOrder (reg t) (reg u) true name v ∧ ReadsInto (set t (reg u)) u rt (back v)

theorem State.SameContext.sctlrNameHazard {s t : State} (h : s.SameContext t) (hl : s.pstate.el = .el2)
    (hhost : s.host2 = true) : (t.pstate.el == .el2 && t.host2) = true := by simp [h.level, h.host2, hl, hhost]

theorem State.SameContext.tcrNameHazard {s t : State} (h : s.SameContext t) (hl : s.pstate.el = .el3)
    (hhost : s.host2 = true) : (t.pstate.el == .el3 && t.host2) = true := by simp [h.level, h.host2, hl, hhost]

theorem pairedRegister_sctlrEl2 {s : State} (hl : s.pstate.el = .el2) (hhost : s.host2 = true) :
    PairedRegister s (·.sctlrEl2) (fun s r => { s with sctlrEl2 := r }) (sctlrConstants s.cfg)
      (fun v => (sctlrConstants s.cfg).apply v ||| sctlrReservedOnes s.cfg s.host2 s.host0) .sctlrEl2 := by
  have hel2 : s.cfg.haveEL2 = true := State.haveEL2_of_el2Enabled (State.el2Enabled_of_host2 hhost)
  refine ⟨fun ht hw => ?_, fun ht hr => ?_⟩
  · rw [← ht.cfg, ← ht.readX]
    simp only [WritesReg, WritesSctlrEl2, ht.cfg ▸ hel2, if_true, ht.sctlrNameHazard hl hhost] at hw
    exact hw.1
  · simp only [← ht.cfg, ← ht.host2, ← ht.host0]
    simpa only [ReadsReg, ReadsSctlrEl2, ht.cfg ▸ hel2, if_true, ht.sctlrNameHazard hl hhost] using hr

theorem pairedRegister_tcrEl1 {s : State} (hl : s.pstate.el = .el3) (hhost : s.host2 = true) :
    PairedRegister s (·.tcrEl1) (fun s r => { s with tcrEl1 := r }) (tcrConstants s.cfg) (tcrReadBack s.cfg)
      .tcrEl1 := by
  refine ⟨fun ht hw => ?_, fun ht hr => ?_⟩
  · rw [← ht.cfg, ← ht.readX]
    simp only [WritesReg, WritesTcrEl1, ht.tcrNameHazard hl hhost] at hw
    exact hw.1
  · rw [← ht.cfg]
    simpa only [ReadsReg, ReadsTcrEl1, ht.tcrNameHazard hl hhost] using hr

theorem pairedRegister_tcr2El1 {s : State} (hl : s.pstate.el = .el3) (hhost : s.host2 = true) :
    PairedRegister s (·.tcr2El1) (fun s r => { s with tcr2El1 := r }) (tcr2Constants s.cfg)
      (tcr2Constants s.cfg).apply .tcr2El1 := by
  refine ⟨fun ht hw => ?_, fun ht hr => ?_⟩
  · rw [← ht.cfg, ← ht.readX]
    simp only [WritesReg, WritesTcr2El1, ht.tcrNameHazard hl hhost] at hw
    exact hw.1
  · rw [← ht.cfg]
    simpa only [ReadsReg, ReadsTcr2El1, ht.tcrNameHazard hl hhost] using hr

section
variable {s t : State} {reg : State → CtlReg} {set : State → CtlReg → State} {k : ConstantBits}
  {back : Dword → Dword} {r : AccessName → SysReg} {name : AccessName} {mask old m : Dword} {msr mrs : Nat → Instr}
  {vs : List Dword}

/-- A read under a name with an access in flight finds one of the values written. -/
theorem PairedRegister.readFinds_written (hp : PairedRegister s reg set k back r)
    (h : NameReaches s (r name) mask msr mrs) (hname : name ≠ .unpaired) (ht : s.SameContext t)
    (hfl : (reg t).InFlight old m vs) (hacc : (reg t).HasAccess name) (rt : Nat) :
    ReadFinds t reg set back (mrs rt) (vs.map (maskedWrite · old m)) := by
  obtain ⟨u, hu, hr⟩ := h.exec_read ht rt
  obtain ⟨v, horder, hreads⟩ := hp.read ht hr
  refine ⟨u, hu, v, ?_, (h.mrs_rt rt).symm ▸ hreads⟩
  rcases hfl.read hname horder with ⟨-, hnone⟩ | hv
  · exact absurd hacc hnone
  · exact hv

/-- A read under the other name may find the old value as well. -/
theorem PairedRegister.readFinds_written_or_old (hp : PairedRegister s reg set k back r)
    (h : NameReaches s (r name) mask msr mrs) (hname : name ≠ .unpaired) (ht : s.SameContext t)
    (hfl : (reg t).InFlight old m vs) (rt : Nat) :
    ReadFinds t reg set back (mrs rt) (vs.map (maskedWrite · old m) ++ [old]) := by
  obtain ⟨u, hu, hr⟩ := h.exec_read ht rt
  obtain ⟨v, horder, hreads⟩ := hp.read ht hr
  refine ⟨u, hu, v, ?_, (h.mrs_rt rt).symm ▸ hreads⟩
  rcases hfl.read hname horder with ⟨rfl, -⟩ | hv
  · exact List.mem_append_right _ List.mem_cons_self
  · exact List.mem_append_left _ hv

end

/-- The statement of R560 for any register with two names, from the places that `WrittenInOrder` and `ReadInOrder`
allow. -/
theorem PairedRegister.unorderedNames {s : State} {reg : State → CtlReg} {set : State → CtlReg → State}
    {k : ConstantBits} {back : Dword → Dword} {r : AccessName → SysReg} {a b : AccessName} {mask : Dword}
    {msrA mrsA msrB mrsB : Nat → Instr} (hp : PairedRegister s reg set k back r) (htail : (reg s).tail = [])
    (hA : NameReaches s (r a) mask msrA mrsA) (hB : NameReaches s (r b) mask msrB mrsB) (ha : a ≠ .unpaired)
    (hb : b ≠ .unpaired) : UnorderedNames s reg set k back mask msrA mrsA msrB mrsB := by
  intro rt rt'
  obtain ⟨t, ht, hsame, hw⟩ := hA.exec_write (.refl s) rt
  have hwritten := hp.write (.refl s) hw
  have haccA := hwritten.hasAccess ha
  have hfl := (CtlReg.inFlight_of_tail_nil htail _ [_]).write List.mem_cons_self hwritten ha
  refine ⟨t, ht, hp.readFinds_written hA ha hsame hfl haccA rt', hp.readFinds_written_or_old hB hb hsame hfl rt',
    fun rt₂ => ?_⟩
  obtain ⟨t₂, ht₂, hsame₂, hw₂⟩ := hB.exec_write hsame rt₂
  have hwritten₂ := hp.write hsame hw₂
  have haccB := hwritten₂.hasAccess hb
  have hfl₂ := ((CtlReg.inFlight_of_tail_nil htail _ [k.apply (s.readX rt), k.apply (s.readX rt₂)]).write (by simp)
    hwritten ha).write (by simp) hwritten₂ hb
  exact ⟨t₂, ht₂, hfl₂.val_mem haccB,
    hp.readFinds_written hA ha hsame₂ hfl₂ (hwritten₂.keeps_hasAccess hb haccA) rt',
    hp.readFinds_written hB hb hsame₂ hfl₂ haccB rt'⟩

/-- Settles O59: each of the three pairs, with either name written first. -/
theorem otherNameReadsOldOrNew : Obligations.OtherNameReadsOldOrNew := by
  intro s haa hhost
  refine ⟨fun hl htail => ?_, fun hl htail => ?_, fun htcr2 hl htail => ?_⟩
  · have hp := pairedRegister_sctlrEl2 hl hhost
    have hfirst := nameReaches_sctlrEl2_el2 haa hl
    have hsecond := nameReaches_sctlrEl1_el2 haa hhost hl
    exact ⟨hp.unorderedNames htail hsecond hfirst nofun nofun, hp.unorderedNames htail hfirst hsecond nofun nofun⟩
  · have hp := pairedRegister_tcrEl1 hl hhost
    have hfirst := nameReaches_tcrEl1_el3 haa hl
    have hsecond := nameReaches_tcrEl12_el3 haa hhost hl
    exact ⟨hp.unorderedNames htail hsecond hfirst nofun nofun, hp.unorderedNames htail hfirst hsecond nofun nofun⟩
  · have hp := pairedRegister_tcr2El1 hl hhost
    have hfirst := nameReaches_tcr2El1_el3 haa htcr2 hl
    have hsecond := nameReaches_tcr2El12_el3 haa hhost htcr2 hl
    exact ⟨hp.unorderedNames htail hsecond hfirst nofun nofun, hp.unorderedNames htail hfirst hsecond nofun nofun⟩

end Sys2Proof.Machine
end

section
/-! SUPPORT. The accessors of HFGRTR2_EL2 by the outcome of their checks (R229, R230), and the read traps of its fields
(R212, R226, R508). -/

namespace Sys2Proof.Machine

/-! ## The accessors of HFGRTR2_EL2 -/

/-- Lines 4.1 and 4.2 of R229 come to one control: with EL3SDDUndef both end in UNDEFINED. -/
theorem fgt2El3Control_getD (s : State) (a : Access) :
    (fgt2El3Control s).getD a =
      if s.cfg.haveEL3 && !s.scrEl3.fgten2 then (if s.el3SddUndef then .undefined else .trap .el3) else a := by
  rw [fgt2El3Control, State.el3SddUndefPriority, Bool.and_right_comm]
  cases s.cfg.haveEL3 && !s.scrEl3.fgten2 with
  | false => rfl
  | true => cases s.el3SddUndef <;> cases s.cfg.el3SddUndefFirst <;> rfl

/-- The outcome of the checks of R229 and R230, level by level. -/
theorem accessHfgrtr2El2_ends {s : State} {Ends : Access → Prop} (h : Ends (accessHfgrtr2El2 s)) :
    if (s.has .FGT2 && s.has .AA64) = false ∨ s.pstate.el = .el0 then Ends .undefined
    else if s.pstate.el = .el1 then
      (if s.nvx.getLsbD 2 && s.nvx.getLsbD 0 then Ends (.nvMem 0x2C0)
      else if s.nvx.getLsbD 0 then Ends (.trap .el2)
      else Ends .undefined)
    else if s.pstate.el = .el2 ∧ s.cfg.haveEL3 = true ∧ s.scrEl3.fgten2 = false then
      (if s.el3SddUndef then Ends .undefined else Ends (.trap .el3))
    else Ends (.register .hfgrtr2El2 0) := by
  have hlevels := course_ends h
  rw [fgt2El3Control_getD] at hlevels
  simpa [State.nv2Active, State.nvTraps, ite_and, apply_ite Ends, Bool.and_comm] using hlevels

/-- Settles O15: the register is read with its constant bits, and as 0 without EL2. -/
theorem mrsHfgrtr2El2 : Obligations.MrsHfgrtr2El2 := by
  intro s rt
  obtain ⟨t, ht, hends⟩ := performRead_ends (.mrsHfgrtr2El2 rt) (accessHfgrtr2El2_takeable s)
  exact ⟨t, ht, accessHfgrtr2El2_ends hends⟩

/-- Settles O16: as the MRS, with no write mask. -/
theorem msrHfgrtr2El2 : Obligations.MsrHfgrtr2El2 := by
  intro s rt hmem
  obtain ⟨t, ht, hends⟩ := performWrite_ends (.msrHfgrtr2El2 rt) (accessHfgrtr2El2_takeable s)
  have hlevels := accessHfgrtr2El2_ends hends
  exact ⟨t, ht, by simpa only [writeEnds_undefined, writeEnds_trap, writeEnds_nvMem, writeEnds_register, hmem,
    true_implies, WritesReg, ConstantBits.maskOnStorage_zero, Instr.rt] using hlevels⟩

/-! ## The read traps -/

/-- `TrapFGT2(field)` of R212 is an EL1 read under an Effective value of 0. -/
theorem trapFgt2_iff (s : State) (v : Dword) (g : Fgt2Target) :
    trapFgt2 s v g = true ↔
      s.pstate.el = .el1 ∧ s.el2Enabled = true ∧ s.has .FGT2 = true ∧ effFgt2 s v g = false := by
  have heff : ((s.cfg.haveEL3 && !s.scrEl3.fgten2) || !bitAt v g.pos) = !effFgt2 s v g := by
    unfold effFgt2
    cases s.cfg.haveEL3 && !s.scrEl3.fgten2 <;> simp
  simp only [trapFgt2, heff, Bool.and_eq_true, Bool.not_eq_true', beq_iff_eq, and_assoc]

theorem fgt2TrapCode_mrs (s : State) (v : Dword) (g : Fgt2Target) (higherPriority : Bool) :
    fgt2TrapCode s v g .mrs higherPriority = if trapFgt2 s v g && !higherPriority then some 0x18 else none := rfl

/-- An MRRS reads RCWSMASK_EL1 alone (R226). -/
theorem fgt2TrapCode_mrrs (s : State) (v : Dword) (g : Fgt2Target) (higherPriority : Bool) :
    fgt2TrapCode s v g .mrrs higherPriority =
      if (trapFgt2 s v g && !higherPriority) && g == .rcwsmask then some 0x14 else none := by
  unfold fgt2TrapCode
  cases trapFgt2 s v g && !higherPriority <;> rfl

/-- Settles O56: both codes stand under the one condition `trapFgt2_iff`, with the priority. -/
theorem fgt2Traps : Obligations.Fgt2Traps := by
  intro s v g higherPriority
  rw [fgt2TrapCode_mrs, fgt2TrapCode_mrrs]
  constructor
  · simp only [Bool.and_eq_true, trapFgt2_iff, Bool.not_eq_true', and_assoc]
  · simp only [ite_eq_left_iff, reduceCtorEq, imp_false, not_not, Bool.and_eq_true, beq_iff_eq, and_comm]

end Sys2Proof.Machine
end

section
/-! SUPPORT. The reads of the ID registers by the outcome of their checks (the shared course of R259, R288, R318 and
R356), and ID_AA64DFR0_EL1 under it. -/

namespace Sys2Proof.Machine

/-- The EL3 control that EL3SDDUndef may move to the front comes to the control in its own place where no check stands
between the two: both end in the outcome `u`. -/
theorem ite_earlyEl3Control {α : Type} (sdd first disabled : Bool) (u trap a : α) :
    (if (sdd && first) && disabled then u else if disabled then (if sdd then u else trap) else a) =
      if disabled then (if sdd then u else trap) else a := by
  cases disabled with
  | false => rw [Bool.and_false]; rfl
  | true => cases sdd <;> cases first <;> rfl

theorem readEnds_idAccessEl0 (i : Instr) (s t : State) :
    ReadEnds i s t (idAccessEl0 s) =
      if s.has .IDST then TrapsTo s t (if s.el2Enabled && s.hcrEl2.tge then .el2 else .el1) (encode i)
      else IsUndefined s t := by
  rw [idAccessEl0, readEnds_ite, ← apply_ite Access.trap, readEnds_trap, readEnds_undefined]

/-- The checks of an ID register read end as its course says; `present` is the line that the access function adds in
front, and `value` what a read of the register puts into X[rt]. -/
theorem idReadCourse_of_readEnds {i : Instr} {s t : State} {present tid3 : Bool} {r : SysReg} {value : Dword}
    (hread : ReadsReg s t i.rt r = ReadsInto s t i.rt value)
    (h : ReadEnds i s t (if !present then .undefined else idAccess s tid3 r)) :
    IdReadCourse s t i.rt (encode i) present tid3 value := by
  have hdisabled : idDisabledByEl3 s = (s.cfg.haveEL3 && s.has .IDTE3 && s.scrEl3.tid3) := rfl
  cases present with
  | false => exact h
  | true =>
    replace h : ReadEnds i s t (idAccess s tid3 r) := h
    cases hl : s.pstate.el with
    | el0 =>
      simp only [idAccess, hl, readEnds_idAccessEl0] at h
      simpa [IdReadCourse, hl] using h
    | el1 =>
      simp only [idAccess, hl, readEnds_ite, readEnds_undefined, readEnds_trap, readEnds_register, hread,
        hdisabled, State.el3SddUndefPriority, Bool.and_comm (s.el3SddUndef && _), ← Bool.and_assoc] at h
      simpa only [IdReadCourse, hl, Bool.true_eq_false, if_false] using h
    | el2 =>
      simp only [idAccess, hl, State.el3SddUndefPriority, ite_earlyEl3Control, readEnds_ite, readEnds_undefined,
        readEnds_trap, readEnds_register, hread, hdisabled] at h
      simpa only [IdReadCourse, hl, Bool.true_eq_false, if_false] using h
    | el3 =>
      simp only [idAccess, hl, readEnds_register, hread] at h
      simpa only [IdReadCourse, hl, Bool.true_eq_false, if_false] using h

/-- Settles O17: the register reads as the configuration's constant, with no reserved bits taken out. -/
theorem mrsIdAa64dfr0El1 : Obligations.MrsIdAa64dfr0El1 := by
  intro s rt
  obtain ⟨t, ht, hends⟩ := performRead_ends (.mrsIdAa64dfr0El1 rt) (accessMrsIdAa64dfr0El1_takeable s)
  exact ⟨t, ht, idReadCourse_of_readEnds rfl hends⟩

end Sys2Proof.Machine
end

section
/-! SUPPORT. ID_AA64ISAR1_EL1 under the shared course of the ID register reads (R288). -/

namespace Sys2Proof.Machine

/-- The stored constant is what an MRS puts into X[rt] (R288, R555): no reserved bit is taken out. -/
theorem readsReg_idAa64isar1 (s t : State) (rt : Nat) :
    ReadsReg s t rt .idAa64isar1 = ReadsInto s t rt s.cfg.idAa64isar1 := rfl

/-- Settles O18: the checks are FEAT_AA64 and then those of every ID register read, with HCR_EL2.TID3 unconditional. -/
theorem mrsIdAa64isar1El1 : Obligations.MrsIdAa64isar1El1 := by
  intro s rt
  obtain ⟨t, ht, hends⟩ := performRead_ends (.mrsIdAa64isar1El1 rt) (accessMrsIdAa64isar1El1_takeable s)
  exact ⟨t, ht, idReadCourse_of_readEnds (readsReg_idAa64isar1 s t rt) hends⟩

end Sys2Proof.Machine
end

section
/-! SUPPORT. ID_AA64ISAR2_EL1 under the shared course of the ID register reads (R318). -/

namespace Sys2Proof.Machine

/-- The stored constant is what an MRS puts into X[rt] (R318, R555), so the value that R318 tests for zero is the value
that the read returns. -/
theorem readsReg_idAa64isar2 (s t : State) (rt : Nat) :
    ReadsReg s t rt .idAa64isar2 = ReadsInto s t rt s.cfg.idAa64isar2 := rfl

/-- Settles O19: the checks are FEAT_AA64 and then those of every ID register read, with HCR_EL2.TID3 acting under
FEAT_FGT, a nonzero value or the implementation's choice. -/
theorem mrsIdAa64isar2El1 : Obligations.MrsIdAa64isar2El1 := by
  intro s rt
  obtain ⟨t, ht, hends⟩ := performRead_ends (.mrsIdAa64isar2El1 rt) (accessMrsIdAa64isar2El1_takeable s)
  exact ⟨t, ht, idReadCourse_of_readEnds (readsReg_idAa64isar2 s t rt) hends⟩

end Sys2Proof.Machine
end

section
/-! SUPPORT. ID_AA64SMFR0_EL1 under the shared course of the ID register reads (R356): the bits that are RES0 without
FEAT_SME2 and without FEAT_SME, and what a read then returns. -/

namespace Sys2Proof.Machine

/-- What a read leaves of the stored constant: nothing without FEAT_SME (R357(a)), no I16I32 and no BI32I32 without
FEAT_SME2 (R337, R345), and never a bit that is always reserved (R355). -/
theorem and_not_smfr0Res0 (c : Config) (v : Dword) :
    v &&& ~~~smfr0Res0 c =
      if c.has .SME then v &&& (if c.has .SME2 then ~~~0x600E00008C7EFFFE else ~~~0x600EF0028C7EFFFE) else 0 := by
  have hreserved : smfr0Reserved ||| fieldMask 44 4 ||| fieldMask 33 1 = 0x600EF0028C7EFFFE := by decide
  cases hsme : c.has .SME with
  | false =>
    have hall : smfr0Res0 c = BitVec.allOnes 64 := by rw [smfr0Res0, hsme]; rfl
    rw [hall, BitVec.not_allOnes]
    exact BitVec.and_zero
  | true =>
    cases hsme2 : c.has .SME2 with
    | false => simp only [smfr0Res0, hsme, hsme2, hreserved]; rfl
    | true => simp only [smfr0Res0, hsme, hsme2, smfr0Reserved]; rfl

/-- Settles O20: one value is both what R356 tests for zero and what the read returns, so the masks are settled once
and the checks are those of every ID register read, with no FEAT_AA64 line in front. -/
theorem mrsIdAa64smfr0El1 : Obligations.MrsIdAa64smfr0El1 := by
  intro s rt
  obtain ⟨t, ht, hends⟩ := performRead_ends (.mrsIdAa64smfr0El1 rt) (accessMrsIdAa64smfr0El1_takeable s)
  have hvalue : s.readReg .idAa64smfr0 = _ := and_not_smfr0Res0 s.cfg s.cfg.idAa64smfr0
  rw [accessMrsIdAa64smfr0El1, hvalue] at hends
  have hread : ReadsReg s t rt .idAa64smfr0 = _ := congrArg (ReadsInto s t rt) hvalue
  exact ⟨t, ht, idReadCourse_of_readEnds (present := true) hread hends⟩

end Sys2Proof.Machine
end

section
/-! SUPPORT. What a step can do at each Exception level (R501 to R503, R507): which outcomes the checks of an accessor
have there, that no exception goes down, that nothing completes at EL0 and nothing at EL1 writes a register of EL2. -/

namespace Sys2Proof.Machine

/-! ## The outcomes of the checks at a level -/

/-- The registers of EL2 that the accessors reach. -/
def SysReg.ofEl2 : SysReg → Bool
  | .sctlrEl2 _ => true
  | .hfgrtr2El2 => true
  | .tcrEl2 => true
  | .tcr2El2 => true
  | _ => false

/-- The outcomes that the checks of an accessor can have at a level: a trap goes up, from EL0 not as far as EL3;
NVMem is reached from EL1; a register is reached from above EL0, and one of EL2 from above EL1. -/
def Access.allowed (el : EL) : Access → Bool
  | .undefined => true
  | .trap target => decide (el.code < target.code) && (el != .el0 || target != .el3)
  | .nvMem _ => el == .el1
  | .register r _ => el != .el0 && (el != .el1 || !r.ofEl2)

theorem Access.allowed_ite {c : Prop} [Decidable c] {el : EL} {a b : Access} (ha : a.allowed el = true)
    (hb : b.allowed el = true) : (if c then a else b).allowed el = true := by
  split
  · exact ha
  · exact hb

theorem Access.allowed_register_el1 {r : SysReg} (m : Dword) (h : r.ofEl2 = false) :
    (Access.register r m).allowed .el1 = true := by
  rw [Access.allowed, h]
  rfl

/-- The frame that every accessor but the ID reads has. -/
theorem course_allowed {s : State} {absent : Prop} [Decidable absent] {a1 a2 a3 : Access}
    (h1 : a1.allowed .el1 = true) (h2 : a2.allowed .el2 = true) (h3 : a3.allowed .el3 = true) :
    (if absent then Access.undefined
      else
        match s.pstate.el with
        | .el0 => .undefined
        | .el1 => a1
        | .el2 => a2
        | .el3 => a3).allowed s.pstate.el = true := by
  refine Access.allowed_ite rfl ?_
  cases s.pstate.el with
  | el0 => rfl
  | el1 => exact h1
  | el2 => exact h2
  | el3 => exact h3

theorem idAccess_allowed (s : State) (tid3Applies : Bool) {r : SysReg} (hr : r.ofEl2 = false) :
    (idAccess s tid3Applies r).allowed s.pstate.el = true := by
  unfold idAccess
  cases s.pstate.el with
  | el0 => exact Access.allowed_ite (Access.allowed_ite rfl rfl) rfl
  | el1 =>
    exact Access.allowed_ite rfl (Access.allowed_ite rfl
      (Access.allowed_ite (Access.allowed_ite rfl rfl) (Access.allowed_register_el1 0 hr)))
  | el2 => exact Access.allowed_ite rfl (Access.allowed_ite (Access.allowed_ite rfl rfl) rfl)
  | el3 => rfl

theorem tcrAccessEl1_allowed (s : State) (vmTrap fineTrap : Bool) {r : SysReg} (hr : r.ofEl2 = false) (m : Dword) :
    (tcrAccessEl1 s vmTrap fineTrap r m).allowed .el1 = true :=
  Access.allowed_ite rfl (Access.allowed_ite rfl (Access.allowed_ite rfl (Access.allowed_register_el1 m hr)))

theorem tcr2AccessEl1_allowed (s : State) (vmTrap fineTrap : Bool) {r : SysReg} (hr : r.ofEl2 = false) (m : Dword) :
    (tcr2AccessEl1 s vmTrap fineTrap r m).allowed .el1 = true :=
  Access.allowed_ite rfl (Access.allowed_ite rfl (Access.allowed_ite rfl (Access.allowed_ite rfl
    (Access.allowed_ite (Access.allowed_ite rfl rfl) (Access.allowed_ite rfl (Access.allowed_register_el1 m hr))))))

theorem tcr2AccessEl2_allowed (s : State) (r : SysReg) (m : Dword) : (tcr2AccessEl2 s r m).allowed .el2 = true :=
  Access.allowed_ite rfl (Access.allowed_ite (Access.allowed_ite rfl rfl) (Access.allowed_ite rfl rfl))

theorem tcrAccessEl2_allowed (s : State) (r : SysReg) (m : Dword) : (tcrAccessEl2 s r m).allowed .el2 = true :=
  Access.allowed_ite rfl rfl

theorem accessHfgrtr2El2_allowed (s : State) : (accessHfgrtr2El2 s).allowed s.pstate.el = true :=
  course_allowed (Access.allowed_ite rfl (Access.allowed_ite rfl rfl))
    (by rw [fgt2El3Control_getD]; exact Access.allowed_ite (Access.allowed_ite rfl rfl) rfl) rfl

theorem accessTcr2El12_allowed (s : State) : (accessTcr2El12 s).allowed s.pstate.el = true :=
  course_allowed (Access.allowed_ite rfl (Access.allowed_ite rfl rfl))
    (Access.allowed_ite (Access.allowed_ite rfl (Access.allowed_ite (Access.allowed_ite rfl rfl) rfl)) rfl)
    (Access.allowed_ite rfl rfl)

theorem accessTcrEl12_allowed (s : State) : (accessTcrEl12 s).allowed s.pstate.el = true :=
  course_allowed (Access.allowed_ite rfl (Access.allowed_ite rfl rfl)) (Access.allowed_ite rfl rfl)
    (Access.allowed_ite rfl rfl)

/-- An accessor is a read or a write after its checks, which end in an outcome allowed at the current level. -/
theorem exec_allowed (i : Instr) (s : State) :
    ∃ a : Access, a.allowed s.pstate.el = true ∧ (exec i s = performRead i a s ∨ exec i s = performWrite i a s) := by
  cases i with
  | mrsSctlrEl2 rt => exact ⟨accessMrsSctlrEl2 s, course_allowed (Access.allowed_ite rfl rfl) rfl rfl, .inl rfl⟩
  | msrSctlrEl2 rt => exact ⟨accessMsrSctlrEl2 s, course_allowed (Access.allowed_ite rfl rfl) rfl rfl, .inr rfl⟩
  | mrsSctlrEl1 rt =>
    exact ⟨accessMrsSctlrEl1 s,
      course_allowed (Access.allowed_ite rfl (Access.allowed_ite rfl (Access.allowed_ite rfl rfl)))
        (Access.allowed_ite rfl rfl) rfl, .inl rfl⟩
  | msrSctlrEl1 rt =>
    exact ⟨accessMsrSctlrEl1 s,
      course_allowed (Access.allowed_ite rfl (Access.allowed_ite rfl (Access.allowed_ite rfl rfl)))
        (Access.allowed_ite rfl rfl) rfl, .inr rfl⟩
  | mrsHfgrtr2El2 rt => exact ⟨_, accessHfgrtr2El2_allowed s, .inl rfl⟩
  | msrHfgrtr2El2 rt => exact ⟨_, accessHfgrtr2El2_allowed s, .inr rfl⟩
  | mrsIdAa64dfr0El1 rt =>
    exact ⟨accessMrsIdAa64dfr0El1 s, Access.allowed_ite rfl (idAccess_allowed s _ rfl), .inl rfl⟩
  | mrsIdAa64isar1El1 rt =>
    exact ⟨accessMrsIdAa64isar1El1 s, Access.allowed_ite rfl (idAccess_allowed s _ rfl), .inl rfl⟩
  | mrsIdAa64isar2El1 rt =>
    exact ⟨accessMrsIdAa64isar2El1 s, Access.allowed_ite rfl (idAccess_allowed s _ rfl), .inl rfl⟩
  | mrsIdAa64smfr0El1 rt => exact ⟨accessMrsIdAa64smfr0El1 s, idAccess_allowed s _ rfl, .inl rfl⟩
  | mrsTcr2El1 rt =>
    exact ⟨accessMrsTcr2El1 s, course_allowed (tcr2AccessEl1_allowed _ _ _ rfl _) (tcr2AccessEl2_allowed ..) rfl,
      .inl rfl⟩
  | msrTcr2El1 rt =>
    exact ⟨accessMsrTcr2El1 s, course_allowed (tcr2AccessEl1_allowed _ _ _ rfl _) (tcr2AccessEl2_allowed ..) rfl,
      .inr rfl⟩
  | mrsTcr2El12 rt => exact ⟨_, accessTcr2El12_allowed s, .inl rfl⟩
  | msrTcr2El12 rt => exact ⟨_, accessTcr2El12_allowed s, .inr rfl⟩
  | mrsTcr2aliasEl1 rt =>
    exact ⟨accessMrsTcr2aliasEl1 s, course_allowed (tcr2AccessEl1_allowed _ _ _ rfl _) (tcr2AccessEl2_allowed ..) rfl,
      .inl rfl⟩
  | msrTcr2aliasEl1 rt =>
    exact ⟨accessMsrTcr2aliasEl1 s, course_allowed (tcr2AccessEl1_allowed _ _ _ rfl _) (tcr2AccessEl2_allowed ..) rfl,
      .inr rfl⟩
  | mrsTcrEl1 rt =>
    exact ⟨accessMrsTcrEl1 s, course_allowed (tcrAccessEl1_allowed _ _ _ rfl _) (tcrAccessEl2_allowed ..) rfl, .inl rfl⟩
  | msrTcrEl1 rt =>
    exact ⟨accessMsrTcrEl1 s, course_allowed (tcrAccessEl1_allowed _ _ _ rfl _) (tcrAccessEl2_allowed ..) rfl, .inr rfl⟩
  | mrsTcrEl12 rt => exact ⟨_, accessTcrEl12_allowed s, .inl rfl⟩
  | msrTcrEl12 rt => exact ⟨_, accessTcrEl12_allowed s, .inr rfl⟩
  | mrsTcraliasEl1 rt =>
    exact ⟨accessMrsTcraliasEl1 s, course_allowed (tcrAccessEl1_allowed _ _ _ rfl _) (tcrAccessEl2_allowed ..) rfl,
      .inl rfl⟩
  | msrTcraliasEl1 rt =>
    exact ⟨accessMsrTcraliasEl1 s, course_allowed (tcrAccessEl1_allowed _ _ _ rfl _) (tcrAccessEl2_allowed ..) rfl,
      .inr rfl⟩

/-! ## What a step can do at a level -/

/-- The values of the registers of EL2 that the accessors reach. -/
def State.el2Values (s : State) : Dword × Dword × Dword × Dword :=
  (s.sctlrEl2.val, s.hfgrtr2El2.val, s.tcrEl2, s.tcr2El2)

@[simp] theorem State.retire_el2Values (s : State) : s.retire.el2Values = s.el2Values := rfl
@[simp] theorem State.nvMemWrite_el2Values (s : State) (offset v : Dword) :
    (s.nvMemWrite offset v).el2Values = s.el2Values := rfl
@[simp] theorem State.writeX_el2Values (s : State) (rt : Nat) (v : Dword) :
    (s.writeX rt v).el2Values = s.el2Values := by
  simp [State.el2Values]
@[simp] theorem State.orderRead_el2Values (s : State) (r : SysReg) : (s.orderRead r).el2Values = s.el2Values := by
  simp [State.el2Values]

theorem State.writeReg_el2Values (s : State) {r : SysReg} (v m : Dword) (hr : r.ofEl2 = false) :
    (s.writeReg r v m).el2Values = s.el2Values := by
  cases r with
  | sctlrEl2 name => exact nomatch hr
  | hfgrtr2El2 => exact nomatch hr
  | tcrEl2 => exact nomatch hr
  | tcr2El2 => exact nomatch hr
  | _ => rfl

/-- No exception writes a register that an accessor names. -/
theorem TakesException.accessible_eq {s t : State} {kind : ExcKind} {target : EL} {cause : ExcCause}
    {iss : Option (BitVec 25)} (h : TakesException s t kind target cause iss) :
    t.x = s.x ∧ t.mem = s.mem ∧ t.sctlrEl1 = s.sctlrEl1 ∧ t.el2Values = s.el2Values ∧
      t.tcrEl1.val = s.tcrEl1.val ∧ t.tcr2El1.val = s.tcr2El1.val := by
  obtain ⟨-, -, -, -, -, hsctlr, hhfgrtr2, htcr, htcr2, -, -, hframe⟩ := h
  have hvalues : t.el2Values = s.el2Values := by
    rw [State.el2Values, hsctlr, hhfgrtr2, hframe]
    rfl
  exact ⟨by rw [hframe], by rw [hframe], by rw [hframe], hvalues, htcr, htcr2⟩

/-- What a step that answers a next state does at its level: it takes an exception to no lower level, from EL0 not
to EL3; or it completes there, which it cannot at EL0, and at EL1 it leaves the registers of EL2 alone. -/
inductive LevelCase (s : State) : State → Prop
  | exception (kind : ExcKind) (target : EL) (cause : ExcCause) (iss : Option (BitVec 25)) (hne : target ≠ .el0)
      (hle : s.pstate.el.code ≤ target.code) (h0 : s.pstate.el = .el0 → target ≠ .el3) :
      LevelCase s (s.takeException kind target cause iss)
  | completes {t : State} (hel : t.pstate = s.pstate) (h0 : s.pstate.el ≠ .el0)
      (h1 : s.pstate.el = .el1 → t.el2Values = s.el2Values) : LevelCase s t

theorem LevelCase.takeUndefined (s : State) : LevelCase s s.takeUndefined := by
  have hup : s.pstate.el.code ≤ s.undefinedTarget.code ∧ (s.pstate.el = .el0 → s.undefinedTarget ≠ .el3) := by
    unfold State.undefinedTarget
    cases s.pstate.el with
    | el0 =>
      dsimp only
      split <;> decide
    | _ => exact ⟨BitVec.le_refl _, nofun⟩
  exact .exception _ _ _ _ s.undefinedTarget_ne hup.1 hup.2

theorem LevelCase.systemAccessTrap {s : State} {target : EL} (w : InstrWord)
    (h : (Access.trap target).allowed s.pstate.el = true) : LevelCase s (s.systemAccessTrap target w) := by
  simp only [Access.allowed, Bool.and_eq_true, decide_eq_true_eq, Bool.or_eq_true, bne_iff_ne] at h
  obtain ⟨hlt, h3⟩ := h
  refine .exception _ _ _ _ ?_ (BitVec.le_of_lt hlt) fun h0 => h3.resolve_left (absurd h0)
  rintro rfl
  exact absurd hlt BitVec.not_lt_zero

theorem LevelCase.nvMemFault {s : State} (h : s.pstate.el = .el1) : LevelCase s s.nvMemFault :=
  .exception .fault .el2 (.fault .nvMemAccess) none nofun (by rw [h]; decide) nofun

theorem performRead_levelCase {i : Instr} {a : Access} {s t : State} (ha : a.allowed s.pstate.el = true)
    (h : performRead i a s = .next t) : LevelCase s t := by
  cases a with
  | undefined =>
    cases h
    exact .takeUndefined s
  | trap target =>
    cases h
    exact .systemAccessTrap _ ha
  | nvMem offset =>
    have hel : s.pstate.el = .el1 := beq_iff_eq.1 ha
    cases h
    split
    · exact .nvMemFault hel
    · exact .completes (by simp) (by simp [hel]) fun _ => by simp
  | register r m =>
    simp only [Access.allowed, Bool.and_eq_true, bne_iff_ne] at ha
    cases h
    exact .completes (by simp) ha.1 fun _ => by simp

theorem performWrite_levelCase {i : Instr} {a : Access} {s t : State} (ha : a.allowed s.pstate.el = true)
    (h : performWrite i a s = .next t) : LevelCase s t := by
  cases a with
  | undefined =>
    cases h
    exact .takeUndefined s
  | trap target =>
    cases h
    exact .systemAccessTrap _ ha
  | nvMem offset =>
    have hel : s.pstate.el = .el1 := beq_iff_eq.1 ha
    cases h
    split
    · exact .nvMemFault hel
    · exact .completes rfl (by simp [hel]) fun _ => rfl
  | register r m =>
    simp only [Access.allowed, Bool.and_eq_true, Bool.or_eq_true, bne_iff_ne, Bool.not_eq_true'] at ha
    obtain ⟨h0, h1⟩ := ha
    cases h
    exact .completes (by simp) h0 fun hel => s.writeReg_el2Values _ _ (h1.resolve_left (absurd hel))

theorem exec_levelCase {i : Instr} {s t : State} (h : exec i s = .next t) : LevelCase s t := by
  obtain ⟨a, ha, hread | hwrite⟩ := exec_allowed i s
  · exact performRead_levelCase ha (hread.symm.trans h)
  · exact performWrite_levelCase ha (hwrite.symm.trans h)

theorem run_levelCase {d : Decoded} {s t : State} (h : run d s = .next t) : LevelCase s t := by
  cases d with
  | instr i => exact exec_levelCase h
  | readOnlyWrite w =>
    cases h
    exact .takeUndefined s
  | implementationDefined w =>
    simp only [run, execImplementationDefined] at h
    split at h
    · rename_i htrap
      simp only [trapTidcp, Bool.and_eq_true] at htrap
      obtain ⟨hel, -, -⟩ := s.hostEl0_iff.1 htrap.1.1
      cases h
      exact .systemAccessTrap w (by rw [hel]; rfl)
    · cases h
  | otherRegister w => cases h
  | notSysMove w => cases h
  | truncated => cases h

theorem step_levelCase {s t : State} (h : step s = .next t) : LevelCase s t := by
  unfold step at h
  split at h
  · exact run_levelCase h
  · cases h

/-! ## The statements -/

/-- Settles O42: an exception writes none of the registers, and at EL1 nothing that completes writes one of EL2. -/
theorem lowerLevelsLeaveEl2Registers : Obligations.LowerLevelsLeaveEl2Registers := by
  intro s t hel h
  have hvalues : t.el2Values = s.el2Values := by
    cases step_levelCase h with
    | exception kind target cause iss hne hle h0 =>
      obtain ⟨-, -, -, hvalues, -, -⟩ := (s.takeException_takes kind target cause iss hne).accessible_eq
      exact hvalues
    | completes hpstate h0 h1 => exact h1 (hel.resolve_left h0)
  simpa only [State.el2Values, Prod.mk.injEq] using hvalues

theorem EL.code_injective : Function.Injective EL.code := Function.LeftInverse.injective EL.ofCode_code

/-- Settles O40: only an exception changes the level, and it goes to no lower one. -/
theorem levelRisesByExceptionOnly : Obligations.LevelRisesByExceptionOnly := by
  intro s t h hchanged
  cases step_levelCase h with
  | exception kind target cause iss hne hle h0 =>
    obtain ⟨hel, helr, -, -, ⟨cs, es, hrecord, -⟩, -, -, -, -, -, henters, -⟩ :=
      s.takeException_takes kind target cause iss hne
    rw [hel] at hchanged ⊢
    have hcode : s.pstate.el.code ≠ target.code := fun he => hchanged (EL.code_injective he).symm
    exact ⟨by bv_omega, helr, henters, kind, cause, iss, cs, es, hrecord⟩
  | completes hpstate h0 h1 => exact absurd (congrArg PState.el hpstate) hchanged

theorem exec_next (i : Instr) (s : State) : ∃ t, exec i s = .next t := by
  obtain ⟨a, ha, h | h⟩ := exec_course i s
  · obtain ⟨t, ht, -⟩ := performRead_ends i ha
    exact ⟨t, h.trans ht⟩
  · obtain ⟨t, ht, -⟩ := performWrite_ends i ha
    exact ⟨t, h.trans ht⟩

/-- Settles O41: nothing completes at EL0, and an exception leaves what the accessors name as it was. -/
theorem el0ReachesNoRegister : Obligations.El0ReachesNoRegister := by
  intro s i hel0
  obtain ⟨t, ht⟩ := exec_next i s
  refine ⟨t, ht, ?_⟩
  cases exec_levelCase ht with
  | exception kind target cause iss hne hle h0 =>
    have htakes := s.takeException_takes kind target cause iss hne
    obtain ⟨hx, hmem, hsctlrEl1, hvalues, htcr, htcr2⟩ := htakes.accessible_eq
    obtain ⟨hel, -⟩ := htakes
    simp only [State.el2Values, Prod.mk.injEq] at hvalues
    obtain ⟨hsctlr, hhfgrtr2, htcrEl2, htcr2El2⟩ := hvalues
    refine ⟨?_, hx, hmem, hsctlr, hhfgrtr2, htcr, htcr2, hsctlrEl1, htcrEl2, htcr2El2⟩
    rw [hel]
    cases target with
    | el0 => exact absurd rfl hne
    | el1 => exact .inl rfl
    | el2 => exact .inr rfl
    | el3 => exact absurd rfl (h0 hel0)
  | completes hpstate h0 h1 => exact absurd hel0 h0

end Sys2Proof.Machine
end

section
/-! SUPPORT. The course of an accessor level by level, the fine-grained read trap of an ALIAS name (R212, R561), and
the accessors of TCR2_EL1 under its three names by the outcome of their checks (R400 to R403, R407, R408). -/

namespace Sys2Proof.Machine

/-! ## Courses level by level -/

/-- `course_ends` with what each level comes to; `present` and the level are at hand where the course of the level
needs them. -/
theorem course_ends_imp {s : State} {present : Bool} {a1 a2 a3 : Access} {Ends : Access → Prop} {P1 P2 P3 : Prop}
    (h : Ends (if !present then .undefined
      else
        match s.pstate.el with
        | .el0 => .undefined
        | .el1 => a1
        | .el2 => a2
        | .el3 => a3))
    (h1 : present = true → s.pstate.el = .el1 → Ends a1 → P1) (h2 : present = true → Ends a2 → P2)
    (h3 : Ends a3 → P3) :
    if present = false ∨ s.pstate.el = .el0 then Ends .undefined
    else if s.pstate.el = .el1 then P1
    else if s.pstate.el = .el2 then P2
    else P3 := by
  replace h := course_ends h
  cases present with
  | false => exact h
  | true =>
    cases hl : s.pstate.el <;> simp only [hl, reduceCtorEq, or_self, or_true, if_true, if_false] at h h1 ⊢
    · exact h
    · exact h1 trivial trivial h
    · exact h2 rfl h
    · exact h3 h

/-! ## The read trap of an ALIAS name -/

/-- The bit of HFGRTR2_EL2 that a read trap sees is that of the stored value or of an unsynchronized one. -/
theorem State.hfgrtr2View_bit (s : State) (k : Nat) (g : Fgt2Target) :
    ∃ h ∈ s.hfgrtr2El2.val :: s.hfgrtr2El2.unsynced, bitAt (s.hfgrtr2View k) g.pos = h.getLsbD g.pos := by
  have hfield : (⟨g.pos, 1, fun _ => false⟩ : ViewField) ∈ hfgrtr2ViewFields :=
    List.mem_map.2 ⟨g.pos, by cases g <;> decide, rfl⟩
  obtain ⟨v, hv, hbit⟩ := s.hfgrtr2El2.view_field hfgrtr2ViewFields (s.draw k) hfgrtr2ViewFields_apart _ hfield
  refine ⟨v, ?_, ?_⟩
  · simpa [CtlReg.olderFor] using hv
  · rw [bitAt, ← decide_fieldAt_one, ← decide_fieldAt_one]
    exact congrArg (fun n : Nat => decide (n = 1)) hbit

/-- At EL1 the trap of R212 is the line that the access functions of the ALIAS names add. -/
theorem State.exists_aliasReadTrapped (s : State) (g : Fgt2Target) :
    ∃ h ∈ s.hfgrtr2El2.val :: s.hfgrtr2El2.unsynced, s.pstate.el = .el1 →
      (s.el2Enabled && s.aliasReadTrapped g) =
        (s.el2Enabled && (s.has .FGT2 && (s.cfg.haveEL3 && !s.scrEl3.fgten2 || !h.getLsbD g.pos))) := by
  obtain ⟨h, hmem, hbit⟩ := s.hfgrtr2View_bit slotFgt2 g
  refine ⟨h, hmem, fun hel => ?_⟩
  rw [State.aliasReadTrapped, trapFgt2, hbit, hel]
  cases s.el2Enabled <;> rfl

/-! ## The courses of TCR2_EL1 and TCR2ALIAS_EL1 -/

section
variable {s t : State} {w : InstrWord} {Ends : Access → Prop}

/-- Lines 3.1 to 3.7. -/
theorem tcr2CourseAtEl1_of_ends {vmTrap fineTrap : Bool} {r : SysReg} {m : Dword}
    (h : Ends (tcr2AccessEl1 s vmTrap fineTrap r m)) (hundef : Ends .undefined = IsUndefined s t)
    (htrap : ∀ target, Ends (.trap target) = TrapsTo s t target w) :
    Tcr2CourseAtEl1 s t w vmTrap fineTrap (Ends (.nvMem 0x270)) (Ends (.register r m)) := by
  have hfirst : (s.el3SddUndefPriority && tcr2DisabledByEl3 s) =
      (s.cfg.haveEL3 && !s.scrEl3.tcr2en && s.el3SddUndef && s.cfg.el3SddUndefFirst) := by
    rw [State.el3SddUndefPriority, tcr2DisabledByEl3, Bool.and_comm, ← Bool.and_assoc]
  rw [tcr2AccessEl1, ite_trap_trap, ite_trap_trap, hfirst] at h
  simp only [apply_ite Ends, hundef, htrap, beq_iff_eq] at h
  exact h

/-- Lines 4.1 to 4.4: the two lines of the EL3 control come to one. -/
theorem tcr2CourseAtEl2_of_ends {r : SysReg} {m : Dword} (h : Ends (tcr2AccessEl2 s r m))
    (hundef : Ends .undefined = IsUndefined s t) (htrap : ∀ target, Ends (.trap target) = TrapsTo s t target w) :
    Tcr2CourseAtEl2 s t w (Ends (.register .tcr2El2 m)) (Ends (.register r 0)) := by
  rw [tcr2AccessEl2, State.el3SddUndefPriority, ite_earlyEl3Control] at h
  simp only [apply_ite Ends, hundef, htrap] at h
  exact h

end

theorem tcr2Absent_or_not_has (s : State) (f : Feature) :
    (tcr2Absent s || !s.has f) = !(s.has .TCR2 && s.has .AA64 && s.has f) := (Bool.not_and ..).symm

/-- A fine-grained trap matters where EL2 is enabled. -/
theorem tcr2AccessEl1_congr {s : State} {fineTrap fineTrap' : Bool}
    (h : (s.el2Enabled && fineTrap) = (s.el2Enabled && fineTrap')) (vmTrap : Bool) (r : SysReg) (m : Dword) :
    tcr2AccessEl1 s vmTrap fineTrap r m = tcr2AccessEl1 s vmTrap fineTrap' r m := by
  rw [tcr2AccessEl1, tcr2AccessEl1, h]

theorem State.srMask_of_has {s : State} (h : s.has .SRMASK = true) (m : Dword) : s.srMask m = m := if_pos h

/-- A redirected MSR stores, from canonical memory. -/
theorem WriteEnds.stores {i : Instr} {s t : State} {offset : Dword} (hmem : s.mem.wf = true) :
    WriteEnds i s t (.nvMem offset) = StoresNvMem s t i.rt (s.nvMemBase + offset) :=
  propext (forall_prop_of_true hmem)

/-- Settles O21: the EL1 and EL2 lines are those shared with TCR2ALIAS_EL1, with the trap bits of TCR_EL1. -/
theorem mrsTcr2El1 : Obligations.MrsTcr2El1 := by
  intro s rt
  obtain ⟨t, ht, hends⟩ := performRead_ends (.mrsTcr2El1 rt) (accessMrsTcr2El1_takeable s)
  exact ⟨t, ht, course_ends_imp hends (fun _ _ hcourse => tcr2CourseAtEl1_of_ends hcourse rfl fun _ => rfl)
    (fun _ hcourse => tcr2CourseAtEl2_of_ends hcourse rfl fun _ => rfl) id⟩

/-- Settles O22: as the MRS, with a store in place of the redirected read. -/
theorem msrTcr2El1 : Obligations.MsrTcr2El1 := by
  intro s rt hmem
  obtain ⟨t, ht, hends⟩ := performWrite_ends (.msrTcr2El1 rt) (accessMsrTcr2El1_takeable s)
  refine ⟨t, ht, course_ends_imp hends (fun _ _ hcourse => ?_)
    (fun _ hcourse => tcr2CourseAtEl2_of_ends hcourse rfl fun _ => rfl) id⟩
  have h := tcr2CourseAtEl1_of_ends hcourse rfl fun _ => rfl
  rwa [WriteEnds.stores hmem] at h

/-- Settles O25: the value of HFGRTR2_EL2 that the trap sees is found first. -/
theorem mrsTcr2aliasEl1 : Obligations.MrsTcr2aliasEl1 := by
  intro s rt
  obtain ⟨t, ht, hends⟩ := performRead_ends (.mrsTcr2aliasEl1 rt) (accessMrsTcr2aliasEl1_takeable s)
  obtain ⟨h, hmem, hfine⟩ := s.exists_aliasReadTrapped .tcr2alias
  rw [accessMrsTcr2aliasEl1, tcr2Absent_or_not_has] at hends
  refine ⟨t, ht, h, hmem, course_ends_imp hends (fun _ hel hcourse => ?_)
    (fun _ hcourse => tcr2CourseAtEl2_of_ends hcourse rfl fun _ => rfl) id⟩
  rw [tcr2AccessEl1_congr (hfine hel)] at hcourse
  exact tcr2CourseAtEl1_of_ends hcourse rfl fun _ => rfl

/-- Settles O26: where the name exists, FEAT_SRMASK does, so the masks apply. -/
theorem msrTcr2aliasEl1 : Obligations.MsrTcr2aliasEl1 := by
  intro s rt hmem
  obtain ⟨t, ht, hends⟩ := performWrite_ends (.msrTcr2aliasEl1 rt) (accessMsrTcr2aliasEl1_takeable s)
  rw [accessMsrTcr2aliasEl1, tcr2Absent_or_not_has] at hends
  refine ⟨t, ht, course_ends_imp hends (fun hpresent _ hcourse => ?_) (fun hpresent hcourse => ?_) id⟩
  · have h := tcr2CourseAtEl1_of_ends hcourse rfl fun _ => rfl
    rwa [WriteEnds.stores hmem, State.srMask_of_has (Bool.and_elim_right hpresent)] at h
  · have h := tcr2CourseAtEl2_of_ends hcourse rfl fun _ => rfl
    rwa [State.srMask_of_has (Bool.and_elim_right hpresent)] at h

/-! ## TCR2_EL12 -/

/-- The course of an access under the name TCR2_EL12: above EL1 the name exists in a host only. -/
theorem accessTcr2El12_ends {s : State} {Ends : Access → Prop} (h : Ends (accessTcr2El12 s)) :
    if (s.has .TCR2 && s.has .AA64 && s.has .VHE) = false ∨ s.pstate.el = .el0 then Ends .undefined
    else if s.pstate.el = .el1 then
      (if s.nvx = 5 then Ends (.nvMem 0x270)
      else if s.nvx.getLsbD 0 then Ends (.trap .el2)
      else Ends .undefined)
    else if s.host2 = false then Ends .undefined
    else if s.pstate.el = .el2 then
      (if s.cfg.haveEL3 && !s.scrEl3.tcr2en then
        (if s.el3SddUndef then Ends .undefined else Ends (.trap .el3))
      else Ends (.register (.tcr2El1 .second) 0))
    else Ends (.register (.tcr2El1 .second) 0) := by
  rw [accessTcr2El12, tcr2Absent_or_not_has] at h
  replace h := course_ends h
  rw [State.el3SddUndefPriority, ite_earlyEl3Control, tcr2DisabledByEl3] at h
  simp only [apply_ite Ends, beq_iff_eq] at h
  cases hhost : s.host2 with
  | false =>
    simp only [hhost, Bool.false_eq_true, if_false, ite_self] at h
    exact h
  | true =>
    simp only [hhost, if_true] at h
    exact h

/-- Settles O23: the EL3 control at EL2 is one condition with the level. -/
theorem mrsTcr2El12 : Obligations.MrsTcr2El12 := by
  intro s rt
  obtain ⟨t, ht, hends⟩ := performRead_ends (.mrsTcr2El12 rt) (accessTcr2El12_takeable s)
  have hlevels := accessTcr2El12_ends hends
  refine ⟨t, ht, ?_⟩
  simp only [ite_and, Bool.and_eq_true, Bool.not_eq_true'] at hlevels ⊢
  exact hlevels

/-- Settles O24: the course of the MRS, with a write under no mask. -/
theorem msrTcr2El12 : Obligations.MsrTcr2El12 := by
  intro s rt hmem
  obtain ⟨t, ht, hends⟩ := performWrite_ends (.msrTcr2El12 rt) (accessTcr2El12_takeable s)
  have hlevels := accessTcr2El12_ends hends
  rw [WriteEnds.stores hmem] at hlevels
  exact ⟨t, ht, hlevels⟩

end Sys2Proof.Machine
end

section
/-! SUPPORT. The accessors of TCR_EL1 under its three names by the outcome of their checks (R479 to R484). -/

namespace Sys2Proof.Machine

/-! ## The courses of TCR_EL1 and TCRALIAS_EL1 -/

/-- The EL1 lines: the two traps to EL2 come to one. -/
theorem tcrAccessEl1_ends {s : State} {Ends : Access → Prop} {vmTrap fineTrap : Bool} {r : SysReg} {m : Dword}
    (h : Ends (tcrAccessEl1 s vmTrap fineTrap r m)) :
    if s.el2Enabled && (vmTrap || fineTrap) then Ends (.trap .el2)
    else if s.nvx = 7 then Ends (.nvMem 0x120)
    else Ends (.register r m) := by
  rw [tcrAccessEl1, ite_trap_trap] at h
  simpa only [apply_ite Ends, beq_iff_eq] using h

theorem tcrAccessEl2_ends {s : State} {Ends : Access → Prop} {r : SysReg} {m : Dword}
    (h : Ends (tcrAccessEl2 s r m)) : if s.host2 then Ends (.register .tcrEl2 m) else Ends (.register r 0) := by
  rwa [tcrAccessEl2, apply_ite Ends] at h

/-- A fine-grained trap matters where EL2 is enabled. -/
theorem tcrAccessEl1_congr {s : State} {fineTrap fineTrap' : Bool}
    (h : (s.el2Enabled && fineTrap) = (s.el2Enabled && fineTrap')) (vmTrap : Bool) (r : SysReg) (m : Dword) :
    tcrAccessEl1 s vmTrap fineTrap r m = tcrAccessEl1 s vmTrap fineTrap' r m := by
  rw [tcrAccessEl1, tcrAccessEl1, h]

theorem not_has_or_not_has (s : State) (f g : Feature) : (!s.has f || !s.has g) = !(s.has f && s.has g) :=
  (Bool.not_and ..).symm

/-- Settles O27: the register is TCR_EL2 at EL2 in a host. -/
theorem mrsTcrEl1 : Obligations.MrsTcrEl1 := by
  intro s rt
  obtain ⟨t, ht, hends⟩ := performRead_ends (.mrsTcrEl1 rt) (accessMrsTcrEl1_takeable s)
  refine ⟨t, ht, ?_⟩
  simp only [ite_and]
  exact course_ends_imp hends (fun _ _ => tcrAccessEl1_ends) (fun _ => tcrAccessEl2_ends) id

/-- Settles O28: as the MRS, with a store in place of the redirected read. -/
theorem msrTcrEl1 : Obligations.MsrTcrEl1 := by
  intro s rt hmem
  obtain ⟨t, ht, hends⟩ := performWrite_ends (.msrTcrEl1 rt) (accessMsrTcrEl1_takeable s)
  refine ⟨t, ht, course_ends_imp hends (fun _ _ hcourse => ?_) (fun _ => tcrAccessEl2_ends) id⟩
  have h := tcrAccessEl1_ends hcourse
  rwa [WriteEnds.stores hmem] at h

/-- Settles O31: the value of HFGRTR2_EL2 that the trap sees is found first. -/
theorem mrsTcraliasEl1 : Obligations.MrsTcraliasEl1 := by
  intro s rt
  obtain ⟨t, ht, hends⟩ := performRead_ends (.mrsTcraliasEl1 rt) (accessMrsTcraliasEl1_takeable s)
  obtain ⟨h, hmem, hfine⟩ := s.exists_aliasReadTrapped .tcralias
  rw [accessMrsTcraliasEl1, not_has_or_not_has] at hends
  refine ⟨t, ht, h, hmem, ?_⟩
  simp only [ite_and]
  refine course_ends_imp hends (fun _ hel hcourse => ?_) (fun _ => tcrAccessEl2_ends) id
  rw [tcrAccessEl1_congr (hfine hel)] at hcourse
  exact tcrAccessEl1_ends hcourse

/-- Settles O32: where the name exists, FEAT_SRMASK does, so the masks apply. -/
theorem msrTcraliasEl1 : Obligations.MsrTcraliasEl1 := by
  intro s rt hmem
  obtain ⟨t, ht, hends⟩ := performWrite_ends (.msrTcraliasEl1 rt) (accessMsrTcraliasEl1_takeable s)
  rw [accessMsrTcraliasEl1, not_has_or_not_has] at hends
  refine ⟨t, ht, ?_⟩
  simp only [ite_and]
  refine course_ends_imp hends (fun hpresent _ hcourse => ?_) (fun hpresent hcourse => ?_) id
  · have h := tcrAccessEl1_ends hcourse
    rwa [WriteEnds.stores hmem, State.srMask_of_has (Bool.and_elim_right hpresent)] at h
  · have h := tcrAccessEl2_ends hcourse
    rwa [State.srMask_of_has (Bool.and_elim_right hpresent)] at h

/-! ## TCR_EL12 -/

/-- The course of an access under the name TCR_EL12: above EL1 the name exists in a host only. -/
theorem accessTcrEl12_ends {s : State} {Ends : Access → Prop} (h : Ends (accessTcrEl12 s)) :
    if (s.has .AA64 && s.has .VHE) = false ∨ s.pstate.el = .el0 then Ends .undefined
    else if s.pstate.el = .el1 then
      (if s.nvx = 5 then Ends (.nvMem 0x120)
      else if s.nvx.getLsbD 0 then Ends (.trap .el2)
      else Ends .undefined)
    else if s.host2 = false then Ends .undefined
    else Ends (.register (.tcrEl1 .second) 0) := by
  rw [accessTcrEl12, not_has_or_not_has] at h
  replace h := course_ends h
  simp only [apply_ite Ends, beq_iff_eq] at h
  cases hhost : s.host2 with
  | false =>
    simp only [hhost, Bool.false_eq_true, if_false, ite_self] at h
    exact h
  | true =>
    simp only [hhost, if_true, ite_self] at h
    exact h

/-- Settles O29: above EL1 the host condition decides alone. -/
theorem mrsTcrEl12 : Obligations.MrsTcrEl12 := by
  intro s rt
  obtain ⟨t, ht, hends⟩ := performRead_ends (.mrsTcrEl12 rt) (accessTcrEl12_takeable s)
  exact ⟨t, ht, accessTcrEl12_ends hends⟩

/-- Settles O30: the course of the MRS, with a write under no mask. -/
theorem msrTcrEl12 : Obligations.MsrTcrEl12 := by
  intro s rt hmem
  obtain ⟨t, ht, hends⟩ := performWrite_ends (.msrTcrEl12 rt) (accessTcrEl12_takeable s)
  have hlevels := accessTcrEl12_ends hends
  rw [WriteEnds.stores hmem] at hlevels
  exact ⟨t, ht, hlevels⟩

end Sys2Proof.Machine
end

section
/-! SUPPORT. The syndrome of an exception (R501) and the PC on an exception to EL1 (R446, R447, R513). -/

namespace Sys2Proof.Machine

/-! ## The syndrome -/

/-- The parts of ESR_ELx, bit by bit. -/
theorem syndrome_fields (upper : BitVec 32) (ec : BitVec 6) (iss : BitVec 25) :
    (syndrome upper ec iss).extractLsb' 26 6 = ec ∧ (syndrome upper ec iss).extractLsb' 25 1 = 1#1 ∧
      (syndrome upper ec iss).extractLsb' 0 25 = iss ∧ (syndrome upper ec iss).extractLsb' 32 32 = upper := by
  refine ⟨?_, ?_, ?_, ?_⟩ <;>
  · refine BitVec.eq_of_getLsbD_eq fun i hi => ?_
    simp only [syndrome, BitVec.getLsbD_extractLsb', BitVec.getLsbD_append]
    interval_cases i <;> simp

/-- The parts of the ISS, by the fields of the trapped word. -/
theorem accessIss_fields (w : InstrWord) :
    (accessIss w).extractLsb' 20 5 = 0#3 ++ 1#1 ++ BitVec.ofBool (wordO0 w) ∧
      (accessIss w).extractLsb' 17 3 = (wordCoordinate w).op2 ∧
      (accessIss w).extractLsb' 14 3 = (wordCoordinate w).op1 ∧
      (accessIss w).extractLsb' 10 4 = (wordCoordinate w).crn ∧
      (accessIss w).extractLsb' 5 5 = w.extractLsb' 0 5 ∧
      (accessIss w).extractLsb' 1 4 = (wordCoordinate w).crm ∧
      (accessIss w).extractLsb' 0 1 = BitVec.ofBool (wordIsRead w) := by
  refine ⟨?_, ?_, ?_, ?_, ?_, ?_, ?_⟩ <;>
  · refine BitVec.eq_of_getLsbD_eq fun i hi => ?_
    simp only [accessIss, BitVec.getLsbD_extractLsb', BitVec.getLsbD_append]
    interval_cases i <;> simp

theorem getLsbD_eq_of_extractLsb'_one {n : Nat} {v : BitVec n} {k : Nat} {b : Bool}
    (h : v.extractLsb' k 1 = BitVec.ofBool b) : v.getLsbD k = b := by
  simpa using congrArg (BitVec.getLsbD · 0) h

/-- Settles O36: the parts of the ISS are the fields of the word, which are those the encoder put there. -/
theorem trapSyndromeFields : Obligations.TrapSyndromeFields := by
  constructor
  · intro upper ec iss
    obtain ⟨hec, hil, hiss, hupper⟩ := syndrome_fields upper ec iss
    exact ⟨hec, getLsbD_eq_of_extractLsb'_one (b := true) hil, hiss, hupper⟩
  · intro i hi
    obtain ⟨-, hread, hcoordinate, -⟩ := Laws.encodeFixed_all i
    have ho0 : wordO0 (encode i) = true := sysMoveWord_o0 ..
    obtain ⟨hop0, hop2, hop1, hcrn, hrt, hcrm, hdirection⟩ := accessIss_fields (encode i)
    rw [ho0] at hop0
    rw [hcoordinate] at hop2 hop1 hcrn hcrm
    rw [hread] at hdirection
    refine ⟨hop0, hop2, hop1, hcrn, ?_, hcrm, getLsbD_eq_of_extractLsb'_one hdirection⟩
    rw [hrt]
    exact wordRt_encode hi

/-! ## The PC on an exception to EL1 -/

/-- Settles O38: the vector entry goes through the top-byte rule of TCR_EL1, with the stored value in force. -/
theorem entryToEl1TopByte : Obligations.EntryToEl1TopByte := by
  intro s kind cause iss hunsynced hstale
  show s.pcTarget _ _ = _
  rw [State.pcTarget_of_settled _ _ hunsynced hstale]
  exact tbiTarget_eq ..

end Sys2Proof.Machine
end

section
/-! SUPPORT. The EL0 controls of SCTLR_EL2 outside EL0 under a host (R505, R506). -/

namespace Sys2Proof.Machine

/-- At EL0 elsewhere MSCEn has the Effective value 1 (R142). -/
theorem effMscen_of_not_hostEl0 {s : State} (h : s.hostEl0 = false) (hel : s.pstate.el = .el0)
    (hmops : s.has .MOPS = true) (v : Dword) : effMscen s v = true := by
  have hhost0 : s.host0 = false := by
    rw [State.hostEl0, hel] at h
    exact h
  rw [effMscen_eq, hmops, hhost0]
  rfl

theorem el0Control_of_not_hostEl0 {s : State} (h : s.hostEl0 = false) (v : Dword) (e : El0Event) :
    el0Control s v e = .proceed := by
  cases e with
  | memoryCopySet =>
    by_cases hel : s.pstate.el = .el0
    · cases hmops : s.has .MOPS with
      | false => simp [el0Control, hmops]
      | true => simp [el0Control, effMscen_of_not_hostEl0 h hel hmops]
    · simp [el0Control, hel]
  | _ => simp [el0Control, trapTidcp, h]

/-- Settles O53: every control stands under `State.hostEl0`, but for MSCEn, which acts as 1 without it. -/
theorem el0ControlsNeedHost : Obligations.El0ControlsNeedHost := by
  intro s v e houtside
  refine el0Control_of_not_hostEl0 (Bool.eq_false_iff.2 fun h => ?_) v e
  obtain ⟨hel, hhost, htge⟩ := s.hostEl0_iff.1 h
  rcases houtside with hel' | hhost' | htge'
  · exact hel' hel
  · exact Bool.false_ne_true (hhost'.symm.trans hhost)
  · exact Bool.false_ne_true (htge'.symm.trans htge)

end Sys2Proof.Machine
end

section
/-! SUPPORT. The Effective values of TCR2_EL1 (R382, R405). -/

namespace Sys2Proof.Machine

/-- What a bit of a status acts as, for the stored bit `b`. -/
def Reservation.acts (b : Bool) : Reservation → Bool
  | .field => b
  | .res0 => false
  | .res1 => true

theorem Reservation.acts_presentIf_res0 (b p : Bool) : (presentIf p .res0).acts b = (p && b) := by cases p <;> rfl

theorem Reservation.acts_ite_res1_res0 (b p : Bool) : (if p then Reservation.res1 else .res0).acts b = p := by
  cases p <;> rfl

theorem tcr2Value_of_ignored {s : State} (h : s.tcr2Ignored = true) (v : Dword) (f : Tcr2Field) :
    tcr2Value s v f = false := if_pos h

theorem tcr2Value_of_not_ignored {s : State} (h : s.tcr2Ignored = false) (v : Dword) (f : Tcr2Field) :
    tcr2Value s v f = (tcr2Status s.cfg (storedD128 s v) f).acts (v.getLsbD f.pos) := by
  rw [tcr2Value, h, if_neg Bool.false_ne_true]
  rfl

theorem storedD128_eq {s : State} (h : s.has .D128 = true) (v : Dword) : storedD128 s v = v.getLsbD 5 := by
  rw [storedD128, h]
  rfl

/-- The start table fields exist under D128. -/
theorem tcr2Value_disCH {s : State} (hig : s.tcr2Ignored = false) (h : s.has .D128 = true) (v : Dword) :
    tcr2Value s v .disCH0 = (v.getLsbD 5 && v.getLsbD 14) ∧ tcr2Value s v .disCH1 = (v.getLsbD 5 && v.getLsbD 15) := by
  have hpresent : (s.cfg.has .D128 && storedD128 s v) = v.getLsbD 5 := by
    rw [storedD128_eq h, show s.cfg.has .D128 = true from h]
    rfl
  simp only [tcr2Value_of_not_ignored hig, tcr2Status, Reservation.acts_presentIf_res0, hpresent, Tcr2Field.pos,
    and_self]

/-- Settles O51, by the status of each field for the stored D128. -/
theorem tcr2EffectiveValues : Obligations.Tcr2EffectiveValues := by
  intro s v
  refine ⟨fun hig f => tcr2Value_of_ignored hig v f, fun hig hhas hbit => ?_, fun hig hhas hbit => ?_⟩
  · have hstored : storedD128 s v = true := (storedD128_eq hhas v).trans hbit
    obtain ⟨hdisCH0, hdisCH1⟩ := tcr2Value_disCH hig hhas v
    rw [hbit, Bool.true_and] at hdisCH0 hdisCH1
    refine ⟨?_, ?_, ?_, ?_, hdisCH0, hdisCH1⟩ <;> rw [tcr2Value_of_not_ignored hig, hstored]
    · exact (Reservation.acts_presentIf_res0 _ _).trans hstored
    · exact Reservation.acts_ite_res1_res0 _ _
    · exact Reservation.acts_ite_res1_res0 _ _
    · exact (Reservation.acts_presentIf_res0 _ _).trans (by simp)
  · obtain ⟨hdisCH0, hdisCH1⟩ := tcr2Value_disCH hig hhas v
    rw [hbit, Bool.false_and] at hdisCH0 hdisCH1
    exact ⟨hdisCH0, hdisCH1⟩

end Sys2Proof.Machine
end

section
/-! SUPPORT. What a Warm reset guarantees of the owned registers and of the ID registers (R551 to R555), and the
invariant of the reset state. -/

namespace Sys2Proof.Machine

/-! ## The constant bits of a layout -/

/-- The run that holds a bit decides which runs of a status hold it. -/
theorem RunsApart.any_covers {runs : List BitRun} (h : RunsApart runs) {r : BitRun} (hr : r ∈ runs) {i : Nat}
    (hi : i < 64) (hcovers : r.covers i = true) (x : Reservation) :
    (runs.any fun q => q.status == x && q.covers i) = (r.status == x) := by
  rw [Bool.eq_iff_iff, List.any_eq_true]
  constructor
  · rintro ⟨q, hq, hqx⟩
    simp only [Bool.and_eq_true] at hqx
    rw [h.eq_of_covers hr hq hi hcovers hqx.2]
    exact hqx.1
  · exact fun hx => ⟨r, hr, by rw [hx, hcovers]; rfl⟩

/-- D3 (a): a bit of a layout reads by the status of its run. -/
theorem apply_constantBits_bit {runs : List BitRun} (h : RunsApart runs) {r : BitRun} (hr : r ∈ runs) {i : Nat}
    (hi : i < 64) (hcovers : r.covers i = true) (v : Dword) :
    ((constantBits runs).apply v).getLsbD i = r.status.acts (v.getLsbD i) := by
  have hnone : (0 : Dword).getLsbD i = false := BitVec.getLsbD_zero
  rw [ConstantBits.apply_getLsbD, constantBits_eq, foldl_addRun_zeros, foldl_addRun_ones,
    h.any_covers hr hi hcovers, h.any_covers hr hi hcovers, hnone]
  cases r.status <;> cases v.getLsbD i <;> rfl

/-- A layout with no bit that is RES1 has no constant ones. -/
theorem constantBits_ones_eq_zero {runs : List BitRun} (h : ∀ r ∈ runs, r.status ≠ .res1) :
    (constantBits runs).ones = 0 := by
  refine BitVec.eq_of_getLsbD_eq fun i _ => ?_
  rw [constantBits_eq, foldl_addRun_ones, List.any_eq_false.2 fun r hr => by simp [h r hr]]
  simp

/-- Without constant ones no bit is added. -/
theorem ConstantBits.apply_and_eq_zero {k : ConstantBits} (hones : k.ones = 0) {v m : Dword} (h : v &&& m = 0) :
    k.apply v &&& m = 0 := by
  refine BitVec.eq_of_getLsbD_eq fun i _ => ?_
  have hbit : (v.getLsbD i && m.getLsbD i) = false := by rw [← BitVec.getLsbD_and, h]; exact BitVec.getLsbD_zero
  rw [BitVec.getLsbD_and, ConstantBits.apply_getLsbD, hones]
  cases hv : v.getLsbD i with
  | false => simp
  | true =>
    rw [hv, Bool.true_and] at hbit
    simp [hbit]

/-! ## SCTLR_EL2 (R551) -/

/-- D3: the status of a field that no context changes. -/
theorem mem_sctlrRuns {c : Config} {f : SctlrField} {r : Reservation}
    (h : ∀ host2 host0, sctlrStatus c host2 host0 f = r) : ⟨f.lo, f.width, r⟩ ∈ sctlrRuns c := by
  refine List.mem_map.2 ⟨f, mem_sctlrFields f, ?_⟩
  simp only [h, hostContexts]
  split <;> cases r <;> rfl

theorem sctlr_constants_bit {c : Config} {f : SctlrField} {r : Reservation}
    (h : ∀ host2 host0, sctlrStatus c host2 host0 f = r) (v : Dword) :
    ((sctlrConstants c).apply v).getLsbD f.lo = r.acts (v.getLsbD f.lo) := by
  have hlo : f.lo < 64 := by cases f <;> decide
  have hwidth : 0 < f.width := by cases f <;> decide
  exact apply_constantBits_bit (sctlrRuns_apart c) (mem_sctlrRuns h) hlo
    ((BitRun.covers_iff hlo).2 ⟨le_rfl, Nat.lt_add_of_pos_right hwidth⟩) v

/-- The value of R551 before the constant bits: the UNKNOWN fields from `d`, the others as the rule fixes them. -/
def sctlrEl2Drawn (c : Config) (d : Dword) : Dword :=
  (d &&& ~~~(if c.highestEL = .el2 then 0x2000000000001005 else 0) &&& ~~~(fieldMask 44 1 ||| fieldMask 25 1)) |||
    ((if c.dssbsReset then fieldMask 44 1 else 0) ||| (if c.eeReset then fieldMask 25 1 else 0))

theorem sctlrEl2ResetValue_eq (c : Config) (d : Dword) :
    sctlrEl2ResetValue c d = (sctlrConstants c).apply (sctlrEl2Drawn c d) := rfl

theorem sctlrEl2Drawn_dssbs (c : Config) (d : Dword) : (sctlrEl2Drawn c d).getLsbD 44 = c.dssbsReset := by
  cases hd : c.dssbsReset <;> cases he : c.eeReset <;> simp [sctlrEl2Drawn, hd, he, fieldMask]

theorem sctlrEl2Drawn_ee (c : Config) (d : Dword) : (sctlrEl2Drawn c d).getLsbD 25 = c.eeReset := by
  cases hd : c.dssbsReset <;> cases he : c.eeReset <;> simp [sctlrEl2Drawn, hd, he, fieldMask]

/-- NMI, I, C and M where EL2 is the highest level. -/
theorem sctlrEl2Drawn_zero {c : Config} (h : c.highestEL = .el2) (d : Dword) {i : Nat} (hi : i ∈ [61, 12, 2, 0]) :
    (sctlrEl2Drawn c d).getLsbD i = false := by
  simp only [List.mem_cons, List.not_mem_nil, or_false] at hi
  rcases hi with rfl | rfl | rfl | rfl <;>
    cases hd : c.dssbsReset <;> cases he : c.eeReset <;> simp [sctlrEl2Drawn, h, hd, he, fieldMask]

theorem and_fieldMask_one_eq_zero {v : Dword} {lo : Nat} (h : v.getLsbD lo = false) : v &&& fieldMask lo 1 = 0 := by
  refine and_fieldMask_eq_zero fun i _ hlo hhi => ?_
  rwa [show i = lo by omega]

theorem sctlrEl2ResetValue_zeros {c : Config} (h : c.highestEL = .el2) (d : Dword) :
    sctlrEl2ResetValue c d &&& 0x2000000000001005 = 0 := by
  have hmask : (0x2000000000001005 : Dword) =
      fieldMask 61 1 ||| fieldMask 12 1 ||| fieldMask 2 1 ||| fieldMask 0 1 := by decide
  have hfield : ∀ {f : SctlrField} {p : Bool}, (∀ host2 host0, sctlrStatus c host2 host0 f = presentIf p .res0) →
      f.lo ∈ [61, 12, 2, 0] → sctlrEl2ResetValue c d &&& fieldMask f.lo 1 = 0 := by
    intro f p hf hlo
    refine and_fieldMask_one_eq_zero ?_
    rw [sctlrEl2ResetValue_eq, sctlr_constants_bit hf, sctlrEl2Drawn_zero h d hlo, Reservation.acts_presentIf_res0,
      Bool.and_false]
  rw [hmask]
  exact and_or_eq_zero (and_or_eq_zero (and_or_eq_zero
    (hfield (f := .nmi) (fun _ _ => rfl) (by decide))
    (hfield (f := .i) (p := true) (fun _ _ => rfl) (by decide)))
    (hfield (f := .c) (p := true) (fun _ _ => rfl) (by decide)))
    (hfield (f := .m) (p := true) (fun _ _ => rfl) (by decide))

theorem sctlrEl2ResetValue_dssbs {c : Config} (h : c.has .SSBS = true) (d : Dword) :
    (sctlrEl2ResetValue c d).getLsbD 44 = c.dssbsReset := by
  have hstatus : ∀ host2 host0, sctlrStatus c host2 host0 .dssbs = .field := fun _ _ => by rw [sctlrStatus, h]; rfl
  rw [sctlrEl2ResetValue_eq]
  exact (sctlr_constants_bit hstatus _).trans (sctlrEl2Drawn_dssbs c d)

/-- EE is storage with FEAT_MixedEnd and a constant otherwise (R156). -/
theorem sctlrEl2ResetValue_ee (c : Config) (d : Dword) :
    (sctlrEl2ResetValue c d).getLsbD 25 = if c.has .MixedEnd then c.eeReset else c.has .BigEnd := by
  have hbit := sctlr_constants_bit (c := c) (f := .ee) (fun _ _ => rfl) (sctlrEl2Drawn c d)
  rw [sctlrEl2ResetValue_eq]
  refine hbit.trans ?_
  cases hmixed : c.has .MixedEnd with
  | true => exact sctlrEl2Drawn_ee c d
  | false => cases c.has .BigEnd <;> rfl

/-- Settles O46, clause by clause: what is drawn stands under the constant bits, which a second application keeps. -/
theorem warmResetSctlrEl2 : Obligations.WarmResetSctlrEl2 :=
  fun _ _ => ⟨fun h => sctlrEl2ResetValue_zeros h _, fun h => sctlrEl2ResetValue_dssbs h _,
    sctlrEl2ResetValue_ee _ _, ConstantBits.apply_apply _ _, rfl⟩

/-! ## HFGRTR2_EL2, TCR2_EL1 and TCR_EL1 (R552 to R554) -/

theorem hfgrtr2Constants_ones (c : Config) : (hfgrtr2Constants c).ones = 0 :=
  constantBits_ones_eq_zero (by simp [hfgrtr2Runs, presentIf_res0_ne_res1])

/-- No field of TCR2_EL1 is RES1 with D128 0. -/
theorem tcr2Status_ne_res1 (c : Config) (f : Tcr2Field) : tcr2Status c false f ≠ .res1 := by
  cases f <;> simp only [tcr2Status, presentIf_res0_ne_res1, ne_eq, not_false_eq_true]
  all_goals split <;> decide

theorem implementationReservation_ne_res1 {l : List Reservation} (h : ∃ r ∈ l, r ≠ .res1) :
    implementationReservation l ≠ .res1 := by
  obtain ⟨r, hr, hne⟩ := h
  have hall : (l.all (· == .res1)) = false := List.all_eq_false.2 ⟨r, hr, by simpa using hne⟩
  rw [implementationReservation, hall, if_neg Bool.false_ne_true]
  split <;> decide

theorem tcr2Constants_ones (c : Config) : (tcr2Constants c).ones = 0 := by
  refine constantBits_ones_eq_zero fun r hr => ?_
  rcases List.mem_append.1 hr with hr | hr
  · simp only [List.mem_cons, List.not_mem_nil, or_false] at hr
    rcases hr with rfl | rfl | rfl | rfl <;> decide
  · obtain ⟨f, -, rfl⟩ := List.mem_map.1 hr
    have hcontext : false ∈ d128Contexts c := by
      unfold d128Contexts
      split <;> decide
    exact implementationReservation_ne_res1 ⟨_, List.mem_map.2 ⟨false, hcontext, rfl⟩, tcr2Status_ne_res1 c f⟩

theorem hfgrtr2El2ResetValue_zero {c : Config} (h : c.highestEL = .el2) (d : Dword) :
    hfgrtr2El2ResetValue c d = 0 := by
  simp [hfgrtr2El2ResetValue, h, ConstantBits.apply, hfgrtr2Constants_ones]

/-- Where EL1 is the highest level. -/
theorem tcr2El1ResetValue_zeros {c : Config} (h2 : c.haveEL2 = false) (h3 : c.haveEL3 = false) (d : Dword) :
    tcr2El1ResetValue c d &&& 0x0C3F = 0 := by
  have hhighest : c.highestEL = .el1 := by rw [Config.highestEL, h2, h3]; rfl
  rw [tcr2El1ResetValue, if_pos hhighest]
  refine ConstantBits.apply_and_eq_zero (tcr2Constants_ones c) ?_
  rw [BitVec.and_assoc]
  exact BitVec.and_zero

/-- Settles O47: the reserved bits are those of every value under the constant bits, whatever was drawn. -/
theorem warmResetOtherRegisters : Obligations.WarmResetOtherRegisters :=
  fun _ _ => ⟨fun h => hfgrtr2El2ResetValue_zero h _, hfgrtr2_reserved _ _, tcr2_reserved _ _,
    fun h2 h3 => tcr2El1ResetValue_zeros h2 h3 _, tcr_reserved _ _⟩

/-! ## The ID registers and the reset state -/

/-- Settles O48: an ID register is a constant of the configuration, which a reset keeps. -/
theorem idRegistersKeptByReset : Obligations.IdRegistersKeptByReset := by
  intro s i r hr
  simp only [List.mem_cons, List.not_mem_nil, or_false] at hr
  rcases hr with rfl | rfl | rfl | rfl <;> exact ⟨rfl, rfl⟩

/-- Settles O45, by evaluation of the one state. -/
theorem resetMeetsInvariant : Obligations.ResetMeetsInvariant := by
  unfold Obligations.ResetMeetsInvariant
  decide

end Sys2Proof.Machine
end
